-- ==== Sys2Proof/Word.lean ====
section
/-! DEFINITION. The word types of the NS-2408: bytes on a lane, belt positions, 32-bit counters. -/

namespace Sys2Proof

/-- One byte of a frame (spec 10, R186). -/
abbrev Byte := BitVec 8

/-- A belt position, modulo 2^32 (spec 00 "Belt position", R3, R4, R14). -/
abbrev Pos := BitVec 32

/-- A saturating 32-bit counter (spec 00 "Priorities, counters and node addresses"). -/
abbrev Counter := BitVec 32

/-- A node address on the line, 6 bits (spec 00, R187). -/
abbrev NodeAddr := BitVec 6

/-- The ON or OFF state of each actuator lane of a bank, bit k for lane k (spec 00 "image", R82). -/
abbrev Image := BitVec 128

end Sys2Proof
end

