-- ==== Sys2Proof/Syntax.lean ====
section
/-! DEFINITION. The commands of the NS-2408: one constructor per row of spec/opcode_table.json.
The table's rows give no operands; an operand here is what the row's rule reads from outside the part at that step
(a pin's level, a lane's bytes or bits) or names which port, bank or block the step belongs to. -/

namespace Sys2Proof

/-- The levels of the encoder channels ENC_A and ENC_B, sampled together (R1). -/
structure EncPair where
  a : Bool
  b : Bool
  deriving DecidableEq, Repr

/-- The level of the emergency-stop input STOPn, which is asserted low (R146). -/
inductive StopLevel where
  | asserted
  | deasserted
  deriving DecidableEq, Repr

/-- The two framed serial ports (spec 08). -/
inductive PortId where
  | u
  | d
  deriving DecidableEq, Repr

/-- A bank number, 0 to 3 (R57). -/
abbrev BankIx := Fin 4

/-- What one SLOT_BOUNDARY step is: the Position Unit's end of a slot, or one Bank Unit's taking of a boundary handed
to it "as an event of its own" (R11, R82). -/
inductive BoundaryStep where
  | clock
  | bank (b : BankIx)
  deriving DecidableEq, Repr

/-- The block whose report a HOLD_REASON_REPORT step takes at the Station Controller (R125, table of section 6.6).
The Mode Controller's reports are STATION_MODE_CHANGE and the Management Engine's are HOLD_FEED and RELEASE_FEED. -/
inductive ReasonSource where
  | itemTrack
  | portU
  | portD
  | bank (b : BankIx)
  deriving DecidableEq, Repr

/-- The commands, in the table's order. Request rows carry no operand: they execute the request at the head of the
request queue (R172), whose arguments stand in its payload (R192). -/
inductive Instr where
  /-- Release of RESETn: straps ADDR[3:0] (R161), first encoder sample (R1), STOPn (R134). -/
  | powerOn (straps : BitVec 4) (enc : EncPair) (stop : StopLevel)
  | forwardCount
  | reverseCount
  | illegalTransition
  | binClose
  | slotBoundary (part : BoundaryStep)
  | airLowHoldEnd (b : BankIx)
  | stationTick
  | emergencyStop
  | encoderFault
  | beltReversal
  /-- The bytes of one run of symbols between two stretches of fill, with no code error inside it (R160). -/
  | frameReceived (p : PortId) (bytes : List Byte)
  | detectFrame
  | detectRecord
  | burdenContribution
  | ringAdvance
  | drainTimeout
  | retirementReport (b : BankIx)
  | trackEmptyReport
  | flush
  | bankModeChange (b : BankIx)
  | stationModeChange
  | holdReasonReport (src : ReasonSource)
  | portDLinked
  | blindSpanBegin
  | blindSpanEnd
  | statusFrame (b : BankIx)
  | signalDetected (p : PortId)
  | receiverLocked (p : PortId)
  | partnerReadyChange (p : PortId) (mark : Bool)
  | signalLoss (p : PortId)
  | monitorWindowClose (p : PortId)
  | portDFrameSent
  | portUFrameSent
  /-- Raw bits of the checked lane, first received first, taken by a checker that is not yet synchronised (R167). -/
  | checkerSync (bits : List Bool)
  | provingExpiry
  | provingExpiryReport
  | requestArrival
  | unknownRequest
  | readLine
  | readStation
  | readBand
  | readBank
  | readRecipe
  | readTrack
  | readWindows
  | writeLine
  | writeStation
  | writeBand
  | writeBank
  | writeRecipe
  | writeTrack
  | writeWindows
  | start
  | stop
  | prove
  /-- STOPn as it stands when the request executes (R149). -/
  | clearFault (stop : StopLevel)
  | softReset
  /-- STOPn as it stands at the end of the soft reset (R152). -/
  | softResetPerformed (stop : StopLevel)
  | selectSet
  | holdFeed
  | releaseFeed
  | readStatus
  | readCounters
  | clearCounters
  | clearEvents
  | setMask
  /-- Raw bits of the checked lane, first received first, taken by a synchronised checker (R167). -/
  | checkerMismatch (bits : List Bool)
  /-- A code error on the receive lane, and whether it fell inside a frame (R157, R160). -/
  | codeError (p : PortId) (inFrame : Bool)
  | resetnAsserted
  deriving DecidableEq, Repr

end Sys2Proof
end

