-- ==== Sys2Proof/Decode.lean ====
section
/-! DEFINITION. Commands spelt by words: no row of spec/opcode_table.json gives bits, so no word spells a command
(log 22). The bytes of the frames and entries that cross the ports are read in Machine/Formats.lean and
Machine/Operands.lean. -/

namespace Sys2Proof

/-- The command that `nbits` bits `w` spell by the table's bits: none, for every word, since every row's "fields" is
empty and the table's reader read no row's bits (spec/98_reader.md). -/
def decodeTableWord (nbits w : Nat) : Option Instr :=
  match nbits, w with
  | _, _ => none

end Sys2Proof
end

