-- ==== Sys2Proof/Config.lean ====
section
/-! DEFINITION. The fixed sizes of the NS-2408. The spec leaves no result undefined, so there is no free value here. -/

namespace Sys2Proof.Config

/-- Items the Item Track holds (R31). -/
def trackCapacity : Nat := 1024
/-- Windows a bank's list holds (R78). -/
def listCapacity : Nat := 512
/-- DETECT frames the Intake holds, counting the one being taken (R17). -/
def intakeCapacity : Nat := 4
/-- Requests in the request queue, counting the one being executed (R172). -/
def requestCapacity : Nat := 4
/-- Frames in the downstream relay queue (R162). -/
def relayCapacity : Nat := 8
/-- Frames in Port U's return queue (R164). -/
def returnCapacity : Nat := 8
/-- Highest value of a burden segment sum (R113). -/
def segmentMax : Nat := 16777215
/-- Consecutive windows at or above link_loss that declare loss (R159). -/
def lossRunLimit : Nat := 8
/-- Longest frame, first header byte to last CRC byte (R160). -/
def frameMaxBytes : Nat := 244
/-- Highest sensor lane (spec 00 "Lanes", R21, R22). -/
def lastSensorLane : Nat := 191

end Sys2Proof.Config
end

