-- ==== Sys2Proof/Machine/Tables.lean ====
section
/-! DEFINITION. The entries of the part's tables and the records it keeps: LINE, STATION, BAND, BANK, RECIPE entries,
detection records, items and windows, with the power-on values the spec gives them. -/

namespace Sys2Proof.Machine

/-- The line modes (R134); codes by R195. -/
inductive Mode where
  | standby | run | drain | test | fault
  deriving DecidableEq, Repr

/-- The fault causes (R134). -/
inductive FaultCause where
  | none | estop | encoder | reverse
  deriving DecidableEq, Repr

/-- The stall state (R8). -/
inductive StallState where
  | moving | stalled
  deriving DecidableEq, Repr

/-- The LINE table's one entry (R175). -/
structure LineEntry where
  slotUs : Nat
  maxItemLen : Nat
  skewLimit : Nat
  staleLimit : Nat
  stallW : Nat
  reverseLimit : Nat
  encFaultLimit : Nat
  occHigh : Nat
  occLow : Nat
  drainLimit : Nat
  segLen : Nat
  linkWarnOn : Nat
  linkWarnOff : Nat
  linkLoss : Nat
  deriving DecidableEq, Repr

/-- The LINE defaults (R175). -/
def LineEntry.default : LineEntry where
  slotUs := 500
  maxItemLen := 4096
  skewLimit := 256
  staleLimit := 65536
  stallW := 16
  reverseLimit := 512
  encFaultLimit := 8
  occHigh := 896
  occLow := 640
  drainLimit := 262144
  segLen := 4096
  linkWarnOn := 4
  linkWarnOff := 0
  linkLoss := 64

/-- The STATION table's one entry (R119); `h` is the band hysteresis H. -/
structure StationEntry where
  rotorNode : Nat
  splitterNode : Nat
  feederNode : Nat
  rotMin : Nat
  rotMax : Nat
  rotIdle : Nat
  slew : Nat
  h : Nat
  deriving DecidableEq, Repr

/-- The STATION defaults (R119). -/
def StationEntry.default : StationEntry where
  rotorNode := 16
  splitterNode := 16
  feederNode := 16
  rotMin := 0
  rotMax := 1500
  rotIdle := 0
  slew := 20
  h := 0

/-- One entry of the BAND table (R116): threshold T_k, rotor frequency f_k, splitter position split_k. -/
structure BandEntry where
  t : Nat
  f : Nat
  split : Nat
  deriving DecidableEq, Repr

/-- The BAND table after power-on: every field of every entry 0 (R116). -/
def BandEntry.default : BandEntry := ⟨0, 0, 0⟩

/-- The kind of a bank (R57). -/
inductive BankKind where
  | disabled | air | coil
  deriving DecidableEq, Repr

/-- long_policy (R57, R96). -/
inductive LongPolicy where
  | chop | truncate
  deriving DecidableEq, Repr

/-- conflict (R57, R93). -/
inductive ConflictRule where
  | protectFirst | ejectFirst | byPriority
  deriving DecidableEq, Repr

/-- A bank descriptor, in the order of R57. -/
structure BankEntry where
  kind : BankKind
  node : Nat
  lanes : Nat
  laneBase : Nat
  sensorsPerLane : Nat
  spread : Nat
  reach : Nat
  leadUs : Nat
  pre : Nat
  post : Nat
  minSlots : Nat
  maxSlots : Nat
  recoverySlots : Nat
  longPolicy : LongPolicy
  conflict : ConflictRule
  budget : Nat
  reserveBudget : Nat
  reservePriority : Nat
  airFeedHold : Bool
  heatOn : Nat
  cool : Nat
  heatTrip : Nat
  heatResume : Nat
  deriving DecidableEq, Repr

/-- The default column of R57. -/
def BankEntry.default : BankEntry where
  kind := .disabled
  node := 16
  lanes := 128
  laneBase := 0
  sensorsPerLane := 1
  spread := 0
  reach := 0
  leadUs := 0
  pre := 0
  post := 0
  minSlots := 1
  maxSlots := 255
  recoverySlots := 0
  longPolicy := .chop
  conflict := .protectFirst
  budget := 128
  reserveBudget := 0
  reservePriority := 7
  airFeedHold := false
  heatOn := 0
  cool := 0
  heatTrip := 65535
  heatResume := 0

/-- What a rule asks of one bank (R39). -/
inductive Action where
  | none | eject | protect
  deriving DecidableEq, Repr

/-- The four actions, priority and burden_weight that a rule and a default rule both hold (R39, R40). -/
structure RuleResult where
  actions : Vector Action 4
  priority : Nat
  burdenWeight : Nat
  deriving DecidableEq, Repr

/-- All actions NONE, priority and burden_weight 0 (R41). -/
def RuleResult.default : RuleResult := ⟨Vector.replicate 4 .none, 0, 0⟩

/-- One of the 48 rules of a recipe set (R39). -/
structure Rule where
  enabled : Bool
  classMask : BitVec 16
  classValue : BitVec 16
  areaMin : Nat
  areaMax : Nat
  confMin : Nat
  zoneLo : Nat
  zoneHi : Nat
  result : RuleResult
  deriving DecidableEq, Repr

/-- A rule after power-on (R41). -/
def Rule.default : Rule where
  enabled := false
  classMask := 0
  classValue := 0
  areaMin := 0
  areaMax := 65535
  confMin := 0
  zoneLo := 0
  zoneHi := 191
  result := .default

/-- A recipe set: 48 rules and the default rule (R39, R40). -/
structure RecipeSet where
  rules : Vector Rule 48
  dflt : RuleResult
  deriving DecidableEq, Repr

/-- A recipe set after power-on (R41). -/
def RecipeSet.default : RecipeSet := ⟨Vector.replicate 48 .default, .default⟩

/-- A detection record as sent (R18). -/
structure Detection where
  laneLo : Nat
  laneHi : Nat
  leadPos : Pos
  trailPos : Pos
  cls : BitVec 16
  area : Nat
  confidence : Nat
  centroid : Option Nat
  tag : Option (BitVec 32)
  touching : Bool
  atEdge : Bool
  deriving DecidableEq, Repr

/-- An item of the Item Track (R31). `rule` is 0 to 47, or 48 for the default rule (R195). -/
structure Item where
  id : BitVec 16
  entryPos : Pos
  laneLo : Nat
  laneHi : Nat
  centroid : Nat
  centroidSent : Bool
  leadPos : Pos
  trailPos : Pos
  cls : BitVec 16
  area : Nat
  confidence : Nat
  tag : Option (BitVec 32)
  touching : Bool
  atEdge : Bool
  clipped : Bool
  recipeSet : Fin 2
  rule : Nat
  pendingBanks : BitVec 4
  deriving DecidableEq, Repr

/-- The kind of a window (R75). -/
inductive WindowKind where
  | eject | protect
  deriving DecidableEq, Repr

/-- The state of a window (R75). -/
inductive WindowState where
  | waiting | opened
  deriving DecidableEq, Repr

/-- A window of a bank's list (R75). -/
structure Window where
  item : BitVec 16
  kind : WindowKind
  lo : Nat
  hi : Nat
  openPos : Pos
  closePos : Pos
  priority : Nat
  state : WindowState
  trimmed : Bool
  due : BitVec 16
  full : BitVec 16
  any : BitVec 16
  protectDenied : Bool
  truncated : Image
  deriving DecidableEq, Repr

end Sys2Proof.Machine
end

