-- ==== Sys2Proof/Machine/State.lean ====
section
/-! DEFINITION. The state of the NS-2408, block by block (spec 00 "Block diagram"), and its power-on value. -/

namespace Sys2Proof.Machine

/-- The Position Unit (spec 01). `history` is newest first (R7); `slotLen` is the length in microseconds of the slot in
progress (R12). -/
structure PositionUnit where
  stored : EncPair
  e : Pos
  tp : Pos
  illegal : Nat
  bin : Nat
  history : Vector Nat 16
  w : Nat
  stall : StallState
  c : Nat
  slot : BitVec 8
  slotLen : Nat
  deriving DecidableEq, Repr

/-- The INTAKE counter group (R37). -/
structure IntakeCounters where
  frames : Counter
  records : Counter
  entered : Counter
  passed : Counter
  refusedMode : Counter
  refusedMalformed : Counter
  refusedStale : Counter
  refusedSkew : Counter
  refusedOverflow : Counter
  laneClamped : Counter
  clipped : Counter
  framesDropped : Counter
  deriving DecidableEq, Repr

/-- All INTAKE counters 0 (R37). -/
def IntakeCounters.zero : IntakeCounters := ⟨0, 0, 0, 0, 0, 0, 0, 0, 0, 0, 0, 0⟩

/-- The Detection Intake (R17, R30, R37). Each held frame is the list of its records not yet taken. -/
structure Intake where
  held : List (List Detection)
  nextId : BitVec 16
  counters : IntakeCounters
  deriving DecidableEq, Repr

/-- The Classifier (spec 03). Tally 48 is the default rule's (R45). -/
structure Classifier where
  sets : Vector RecipeSet 2
  active : Fin 2
  tallies : Vector (Vector Counter 49) 2
  deriving DecidableEq, Repr

/-- The thermal state of a coil lane (R89). -/
inductive Thermal where
  | normal | cooling
  deriving DecidableEq, Repr

/-- The run and heat state of one actuator lane (R89). -/
structure Lane where
  onRun : Nat
  holdLeft : Nat
  recoveryLeft : Nat
  heat : Nat
  thermal : Thermal
  deriving DecidableEq, Repr

/-- A lane after power-on and SOFT RESET (R89, R110). -/
def Lane.rest : Lane := ⟨0, 0, 0, 0, .normal⟩

/-- A BANK counter group (R80, R111). -/
structure BankCounters where
  created : Counter
  uncovered : Counter
  fired : Counter
  partialServed : Counter
  suppressed : Counter
  missed : Counter
  kept : Counter
  breached : Counter
  late : Counter
  dropped : Counter
  abandoned : Counter
  budgetDenied : Counter
  airLow : Counter
  coilTrips : Counter
  deriving DecidableEq, Repr

/-- All BANK counters 0 (R80, R111). -/
def BankCounters.zero : BankCounters := ⟨0, 0, 0, 0, 0, 0, 0, 0, 0, 0, 0, 0, 0, 0⟩

/-- A Bank Unit (spec 04, 05). `mode` is the mode as last taken from the Mode Controller (R88); `airReport` is what the
Bank Unit last reported to the Station Controller (R102); `holdEnd` says that a hold has run out at a boundary and its
AIR_LOW_HOLD_END is still to be taken (log 19). -/
structure BankUnit where
  desc : BankEntry
  mode : Mode
  windows : List Window
  lanes : Vector Lane 128
  composed : Image
  latched : Image
  airLow : Nat
  airReport : Bool
  holdEnd : Bool
  inhibit : Bool
  counters : BankCounters
  deriving DecidableEq, Repr

/-- The feeder command (R125); codes by R195. -/
inductive FeederCommand where
  | release | hold
  deriving DecidableEq, Repr

/-- The feeder hold-reason set, one flag per reason in the order of the table of section 6.6 (R125). -/
structure HoldSet where
  mode : Bool
  occupancy : Bool
  blind : Bool
  actuator : Bool
  air : Bool
  operator : Bool
  deriving DecidableEq, Repr

/-- The Station Controller (spec 06). `closed` is newest first (R113); `mode` and `portULinked` are the mode and Port U's
state as last taken (R135, R127); bit b of `airBanks` says that bank b reports AIR (R102). -/
structure Station where
  mode : Mode
  portULinked : Bool
  current : Nat
  closed : Vector Nat 7
  b : Nat
  band : Fin 8
  bands : Vector BandEntry 8
  entry : StationEntry
  target : Nat
  setpoint : Nat
  splitter : Nat
  holds : HoldSet
  airBanks : BitVec 4
  command : FeederCommand
  deriving DecidableEq, Repr

/-- The Mode Controller (R134). -/
structure ModeController where
  mode : Mode
  cause : FaultCause
  drainStart : Pos
  blindStart : Option Pos
  blindEnd : Option Pos
  deriving DecidableEq, Repr

/-- The state of a port (R155); codes by R195. -/
inductive PortState where
  | down | training | linked | proving
  deriving DecidableEq, Repr

/-- What both ports hold (spec 08). `partnerReady` is the partner's ready mark held (R154); `signal` says that the receive
lane has had transitions in the last 1 ms (R155, log 13). The counters are the rows of R171 that both ports have. -/
structure Link where
  state : PortState
  locked : Bool
  partnerReady : Bool
  signal : Bool
  windowErrors : Nat
  lossRun : Nat
  warning : Bool
  retrains : Counter
  codeErrors : Counter
  warnings : Counter
  badFrames : Counter
  misdirected : Counter
  deriving DecidableEq, Repr

/-- A port after power-on (R155, R170, table 8.8). -/
def Link.powerOn : Link := ⟨.down, false, false, false, 0, 0, false, 0, 0, 0, 0, 0⟩

/-- The frame kinds (section 8.4); codes by R186. -/
inductive FrameKind where
  | detect | request | answer | notice | fire | drive | status
  deriving DecidableEq, Repr

/-- A frame the part builds itself: its source is the part's address and its spare bits and flags are 0 (R187). -/
structure Frame where
  dest : NodeAddr
  kind : FrameKind
  payload : List Byte
  deriving DecidableEq, Repr

/-- A frame waiting for, or on, a transmit lane: one of the part's own, the OK answer of a SOFT RESET not yet performed
(R179), or a relayed frame held byte for byte (R162). -/
inductive TxFrame where
  | own (f : Frame)
  | resetAnswer (f : Frame)
  | relayed (bytes : List Byte)
  deriving DecidableEq, Repr

/-- The stations that DRIVE frames address (R131). -/
inductive StationId where
  | rotor | splitter | feeder
  deriving DecidableEq, Repr

/-- Port U: its link, the return queue (oldest first, R164), the frame on the return lane. -/
structure PortU where
  link : Link
  queue : List TxFrame
  tx : Option TxFrame
  relayDrops : Counter
  returnDrops : Counter
  deriving DecidableEq, Repr

/-- Port D: its link, the arbiter's waiting frames (R163), the downstream relay queue (oldest first, R162), the frame on
the forward lane. -/
structure PortD where
  link : Link
  fire : Vector (Option Frame) 4
  drive : List (StationId × Frame)
  relay : List (List Byte)
  tx : Option TxFrame
  unknownSource : Counter
  relayDrops : Counter
  fireOverruns : Counter
  deriving DecidableEq, Repr

/-- The roles of a proving run (R165). -/
inductive ProvingRole where
  | generate | check
  deriving DecidableEq, Repr

/-- The status of a proving result (R168); codes by R195. -/
inductive ProvingStatus where
  | running | generated | noPattern | clean | errors
  deriving DecidableEq, Repr

/-- The checker of a proving run (R167). Bit k of a register is stage k + 1. -/
inductive Checker where
  /-- `n` bits of the seed loaded so far into `reg`. -/
  | seeding (reg : BitVec 15) (n : Nat)
  /-- Seeded, `n` consecutive bits matched, not yet synchronised. -/
  | matching (reg : BitVec 15) (n : Nat)
  | synced (reg : BitVec 15)
  deriving DecidableEq, Repr

/-- What a proving run keeps besides its port: the generator's register as it stands at the start of the run (R166,
log 16), or the checker (R167). -/
inductive ProvingEngine where
  | generator (reg : BitVec 15)
  | checker (c : Checker)
  deriving DecidableEq, Repr

/-- A proving run in progress (R165). -/
structure ProvingRun where
  port : PortId
  role : ProvingRole
  engine : ProvingEngine
  deriving DecidableEq, Repr

/-- The proving result (R168). -/
structure ProvingResult where
  port : PortId
  role : ProvingRole
  duration : Nat
  mismatches : Counter
  errorSeen : Bool
  status : ProvingStatus
  deriving DecidableEq, Repr

/-- The run in progress and the result, each or none (R165, R168). -/
structure Proving where
  run : Option ProvingRun
  result : Option ProvingResult
  deriving DecidableEq, Repr

/-- A REQUEST frame addressed to the part: its source node and payload (R172, R192). -/
structure Request where
  src : NodeAddr
  payload : List Byte
  deriving DecidableEq, Repr

/-- A SOFT RESET between its execution and its performance (R179). `due` carries an answer that found the return queue
full and is kept aside (log 12). -/
inductive SoftReset where
  | none
  | waiting
  | due (kept : Option Frame)
  deriving DecidableEq, Repr

/-- The Management Engine (spec 09). Bit k of `flags` and `mask` is flag number k of R181; a mask bit 1 admits (R193). -/
structure Management where
  queue : List Request
  flags : BitVec 15
  mask : BitVec 15
  alert : Bool
  line : LineEntry
  softReset : SoftReset
  deriving DecidableEq, Repr

/-- A port's report of a change of its state out of or into LINKED (R156). -/
inductive LinkReport where
  | left
  | became
  deriving DecidableEq, Repr

/-- A report of Port U to the Mode Controller, which takes them all in the order Port U made them (R144): a change out of or
into LINKED (R156), or the expiry of a proving run (R169). -/
inductive PortUReport where
  | link (r : LinkReport)
  | expiry
  deriving DecidableEq, Repr

/-- What a STATUS frame carries (R100). -/
structure DriverStatus where
  airLow : Nat
  inhibit : Bool
  deriving DecidableEq, Repr

/-- Reports on their way to or from one Bank Unit, each list oldest first: boundaries from the Position Unit (R11), mode
changes from the Mode Controller (R105), STATUS frames from Port D (R100), retirement reports to the Item Track (R32),
AIR reports to the Station Controller (R102). -/
structure BankHanded where
  boundaries : List (BitVec 8)
  modes : List Mode
  status : List DriverStatus
  retired : List (BitVec 16)
  air : List Bool
  deriving DecidableEq, Repr

/-- No report outstanding. -/
def BankHanded.empty : BankHanded := ⟨[], [], [], [], []⟩

/-- Reports that one block has handed to another and that the other has not yet taken, each list oldest first (R125,
R144; log 3). A Nat counts reports that carry nothing. -/
structure Handed where
  /-- Port U to the Intake (R17). -/
  detects : List (List Detection)
  /-- Port U to the Management Engine (R172). -/
  requests : List Request
  /-- Intake to Station Controller (R49). -/
  burden : List Nat
  /-- Position Unit to Station Controller: crossings of a segment boundary (R114). -/
  ring : Nat
  /-- Position Unit to Mode Controller: encoder fault reports (R147). -/
  encoder : Nat
  /-- Position Unit to Mode Controller: reversal reports (R147). -/
  reversal : Nat
  /-- Item Track to Mode Controller (R140). -/
  trackEmpty : Nat
  /-- Item Track to Station Controller: OCCUPANCY set or clear (R35). -/
  occupancy : List Bool
  /-- Port U to Mode Controller (R144, R151). -/
  portUMode : List PortUReport
  /-- Port U to Station Controller (R127). -/
  portUStation : List LinkReport
  /-- Port D to Station Controller (R128, R129). -/
  portDStation : List LinkReport
  /-- Port D to Mode Controller: proving expiry reports (R151). -/
  portDExpiry : Nat
  /-- Mode Controller to Station Controller (R126). -/
  stationModes : List Mode
  banks : Vector BankHanded 4
  deriving DecidableEq, Repr

/-- Nothing outstanding. -/
def Handed.empty : Handed :=
  ⟨[], [], [], 0, 0, 0, 0, [], [], [], [], 0, [], Vector.replicate 4 .empty⟩

/-- The state of the part and the queue of commands waiting for it, first in first out. `inReset` holds while RESETn is
asserted (R10, R182); `stopn` is the level of STOPn last seen (log 8). -/
structure State where
  pending : List Instr
  inReset : Bool
  nodeAddr : NodeAddr
  stopn : StopLevel
  pos : PositionUnit
  intake : Intake
  cls : Classifier
  track : List Item
  banks : Vector BankUnit 4
  station : Station
  mc : ModeController
  portU : PortU
  portD : PortD
  proving : Proving
  mgmt : Management
  handed : Handed
  deriving DecidableEq, Repr

/-- The reasons a step could stop with a fault: none. The spec has no event that stops the part; the line mode FAULT is a
state (R148). An empty type: no command raises a fault, which is safe to read off any statement (log 23). -/
inductive Fault where
  deriving DecidableEq, Repr

/-- The reasons a command could be refused. -/
inductive Refusal where
  /-- Raised by `exec` alone, for a command that has no meaning yet: none is left (safe: the machine stops). -/
  | notModelled (mnemonic : String)
  deriving DecidableEq, Repr

/-- The node address sampled from the straps; a strap value of 0 reads as 1 (R161). -/
def nodeOfStraps (straps : BitVec 4) : NodeAddr :=
  if straps = 0 then 1 else straps.setWidth 6

/-- The Position Unit after power-on (table 1.8). -/
def PositionUnit.powerOn (enc : EncPair) : PositionUnit where
  stored := enc
  e := 0
  tp := 0
  illegal := 0
  bin := 0
  history := Vector.replicate 16 0
  w := 0
  stall := .stalled
  c := 0
  slot := 0
  slotLen := LineEntry.default.slotUs

/-- A Bank Unit after power-on (tables 4.12, 5.10). -/
def BankUnit.powerOn : BankUnit where
  desc := .default
  mode := .standby
  windows := []
  lanes := Vector.replicate 128 .rest
  composed := 0
  latched := 0
  airLow := 0
  airReport := false
  holdEnd := false
  inhibit := false
  counters := .zero

/-- The Station Controller after power-on (table 6.9). -/
def Station.powerOn : Station where
  mode := .standby
  portULinked := false
  current := 0
  closed := Vector.replicate 7 0
  b := 0
  band := 0
  bands := Vector.replicate 8 .default
  entry := .default
  target := 0
  setpoint := 0
  splitter := 0
  holds := ⟨true, false, false, true, false, false⟩
  airBanks := 0
  command := .hold

/-- The Management Engine after power-on (R185, table 9.7). -/
def Management.powerOn : Management where
  queue := []
  flags := 0
  mask := BitVec.allOnes 15
  alert := false
  line := .default
  softReset := .none

/-- Every block in its power-on state, with the straps and encoder pair sampled and STOPn at the level given (R134, R161,
R1, and the reset tables of every chapter). `pending` is not the part's. -/
def State.powerOn (straps : BitVec 4) (enc : EncPair) (stop : StopLevel) (pending : List Instr) : State where
  pending := pending
  inReset := false
  nodeAddr := nodeOfStraps straps
  stopn := stop
  pos := .powerOn enc
  intake := ⟨[], 0, .zero⟩
  cls := ⟨Vector.replicate 2 .default, 0, Vector.replicate 2 (Vector.replicate 49 0)⟩
  track := []
  banks := Vector.replicate 4 .powerOn
  station := .powerOn
  mc := ⟨.standby, .none, 0, none, none⟩
  portU := ⟨.powerOn, [], none, 0, 0⟩
  portD := ⟨.powerOn, Vector.replicate 4 none, [], [], none, 0, 0, 0⟩
  proving := ⟨none, none⟩
  mgmt := .powerOn
  handed := .empty

/-- The machine right after reset. The inputs sampled at the release of RESETn are not given by the spec: straps 0, encoder
channels (0, 0), STOPn deasserted (DESIGN CHOICE, log 9); POWER_ON takes any others. -/
def State.reset : State := .powerOn 0 ⟨false, false⟩ .deasserted []

end Sys2Proof.Machine
end

