-- ==== Sys2Proof/Machine/Formats.lean ====
section
/-! DEFINITION. The byte layouts of frames and payloads (spec 10) and the CRC (R160). -/

namespace Sys2Proof.Machine

/-- One byte of a number (R194). -/
def u8 (n : Nat) : List Byte := [BitVec.ofNat 8 n]
/-- Two bytes, most significant first (spec 10, introduction). -/
def u16 (n : Nat) : List Byte := [BitVec.ofNat 8 (n / 256), BitVec.ofNat 8 n]
/-- Three bytes, most significant first. -/
def u24 (n : Nat) : List Byte := BitVec.ofNat 8 (n / 65536) :: u16 n
/-- Four bytes, most significant first. -/
def u32 (n : Nat) : List Byte := BitVec.ofNat 8 (n / 16777216) :: u24 n

/-- The number that bytes spell, most significant first. -/
def be (bs : List Byte) : Nat := bs.foldl (fun n b => n * 256 + b.toNat) 0

/-- The number spelt by the `len` bytes at offset `off`. -/
def fld (bs : List Byte) (off len : Nat) : Nat := be ((bs.drop off).take len)

/-- A yes-or-no byte (R194). -/
def yesNo (b : Bool) : List Byte := u8 b.toNat

/-- An optional 32-bit field: a presence byte, then the value or 0 (R194). -/
def optPos : Option (BitVec 32) → List Byte
  | none => u8 0 ++ u32 0
  | some p => u8 1 ++ u32 p.toNat

/-- One bit into the CRC of polynomial x^16 + x^15 + x^2 + 1 (R160). -/
def crcBit (crc : BitVec 16) (bit : Bool) : BitVec 16 :=
  let shifted := crc <<< 1
  if crc.msb != bit then shifted ^^^ 0x8005#16 else shifted

/-- One byte into the CRC, most significant bit first (R160). -/
def crcByte (crc : BitVec 16) (b : Byte) : BitVec 16 :=
  [7, 6, 5, 4, 3, 2, 1, 0].foldl (fun c i => crcBit c (b.getLsbD i)) crc

/-- The CRC over header and payload: all ones to start, no inversion at the end (R160). -/
def crc16 (bs : List Byte) : BitVec 16 := bs.foldl crcByte 0xFFFF#16

/-- The kind codes (R186). -/
def FrameKind.code : FrameKind → Nat
  | .detect => 1
  | .request => 2
  | .answer => 3
  | .notice => 4
  | .fire => 5
  | .drive => 6
  | .status => 7

/-- The kind of a kind code; 0 and 8 to 15 are unknown (R187). -/
def FrameKind.ofCode : Nat → Option FrameKind
  | 1 => some .detect
  | 2 => some .request
  | 3 => some .answer
  | 4 => some .notice
  | 5 => some .fire
  | 6 => some .drive
  | 7 => some .status
  | _ => none

/-- The bytes on the lane of a frame the part builds: header, payload, CRC; spare bits and flags 0, source the part's own
address (R186, R187). -/
def Frame.wire (addr : NodeAddr) (f : Frame) : List Byte :=
  let body := [f.dest.setWidth 8, addr.setWidth 8, BitVec.ofNat 8 f.kind.code, BitVec.ofNat 8 f.payload.length] ++ f.payload
  body ++ u16 (crc16 body).toNat

/-- The bytes on the lane of any frame sent: a relayed frame goes out exactly as received (R162, R187). -/
def TxFrame.wire (addr : NodeAddr) : TxFrame → List Byte
  | .own f => f.wire addr
  | .resetAnswer f => f.wire addr
  | .relayed bytes => bytes

/-- The presence bits and fields of one record, and the bytes after it; none when the bytes fall short (R188, R189). -/
def parseRecord (bs : List Byte) : Option (Detection × List Byte) :=
  let presence := bs.getD 0 0
  let hasCentroid := presence.getLsbD 0
  let hasTag := presence.getLsbD 1
  let tagAt := if hasCentroid then 17 else 16
  let size := if hasTag then tagAt + 4 else tagAt
  if bs.length < size then none
  else some
    ({ laneLo := fld bs 1 1
       laneHi := fld bs 2 1
       leadPos := BitVec.ofNat 32 (fld bs 3 4)
       trailPos := BitVec.ofNat 32 (fld bs 7 4)
       cls := BitVec.ofNat 16 (fld bs 11 2)
       area := fld bs 13 2
       confidence := fld bs 15 1
       centroid := if hasCentroid then some (fld bs 16 1) else none
       tag := if hasTag then some (BitVec.ofNat 32 (fld bs tagAt 4)) else none
       touching := presence.getLsbD 2
       atEdge := presence.getLsbD 3 }, bs.drop size)

/-- Exactly `n` records and nothing after them (R189). -/
def parseRecords : Nat → List Byte → Option (List Detection)
  | 0, bs => if bs.isEmpty then some [] else none
  | n + 1, bs =>
    match parseRecord bs with
    | none => none
    | some (r, rest) => (parseRecords n rest).map (r :: ·)

/-- The records of a DETECT payload; none when the list count or the length is wrong (R160, R188, R189). -/
def detectRecords : List Byte → Option (List Detection)
  | [] => none
  | n :: rest => if 1 ≤ n.toNat ∧ n.toNat ≤ 8 then parseRecords n.toNat rest else none

/-- A frame received whole and correct: addresses from bits 5 to 0 of bytes 0 and 1 (R187). -/
structure RxFrame where
  dest : NodeAddr
  src : NodeAddr
  kind : FrameKind
  payload : List Byte
  deriving DecidableEq, Repr

/-- The frame that a run of bytes is, or none for a bad frame: the checks of R160 and R187 that do not depend on the
part's address. Its length is at least a header's and at most 244 bytes, agrees with the payload length, the CRC is
right, the kind is one of the seven, the destination is not 63, a DETECT agrees with its own contents. -/
def parseFrame (bs : List Byte) : Option RxFrame :=
  if bs.length < 4 then none
  else if Config.frameMaxBytes < bs.length then none
  else if bs.length ≠ 6 + fld bs 3 1 then none
  else if (crc16 (bs.take (bs.length - 2))).toNat ≠ fld bs (bs.length - 2) 2 then none
  else
    match FrameKind.ofCode (fld bs 2 1 % 16) with
    | none => none
    | some k =>
      let dest := (bs.getD 0 0).setWidth 6
      let payload := (bs.drop 4).take (bs.length - 6)
      if dest = 63 then none
      else if k = .detect ∧ (detectRecords payload).isNone then none
      else some ⟨dest, (bs.getD 1 0).setWidth 6, k, payload⟩

/-- The lanes of an image below `lanes`, packed eight to a byte, lane k at byte k / 8, bit k mod 8 (R190, R191). -/
def packLanes (image : Image) (lanes : Nat) : List Byte :=
  (List.range ((lanes + 7) / 8)).map fun j =>
    ((image &&& (BitVec.allOnes 128 >>> (128 - lanes))) >>> (8 * j)).setWidth 8

/-- A FIRE frame (R83, R190). -/
def fireFrame (node : Nat) (slot : BitVec 8) (lanes : Nat) (image : Image) : Frame :=
  ⟨BitVec.ofNat 6 node, .fire, slot :: u8 lanes ++ packLanes image lanes⟩

/-- The station codes of a DRIVE frame (R190). -/
def StationId.code : StationId → Nat
  | .rotor => 1
  | .splitter => 2
  | .feeder => 3

/-- A DRIVE frame (R131, R190). -/
def driveFrame (st : StationId) (node value : Nat) : Frame :=
  ⟨BitVec.ofNat 6 node, .drive, u8 st.code ++ u16 value⟩

/-- A NOTICE frame, addressed to node 0 (R183, R190). -/
def noticeFrame (flag : Nat) (tp : Pos) : Frame := ⟨0, .notice, u8 flag ++ u32 tp.toNat⟩

/-- The conditions a STATUS payload of three bytes carries (R190); bits 7 to 1 of byte 2 are ignored (R191). -/
def statusOf (payload : List Byte) : DriverStatus := ⟨fld payload 0 2, (payload.getD 2 0).getLsbD 0⟩

end Sys2Proof.Machine
end

