-- ==== Sys2Proof/Machine/Ops.lean ====
section
/-! DEFINITION. Operations over the state that several blocks share: signed differences, saturating counts, banks and
links by number, hand-over of frames to the transmit lanes. -/

namespace Sys2Proof.Machine

/-- What a command answers. No command faults or is refused (log 23). -/
abbrev Answered := Host.Outcome State Fault Refusal

/-- Every event happens on the running time base; while RESETn is asserted the part is held and nothing happens but
POWER_ON (R10; log 10). -/
def whenRunning (f : State → State) (s : State) : Answered := .next (if s.inReset then s else f s)

/-- The signed difference a - b of two positions (R14). -/
def sdiff (a b : Pos) : Int := (a - b).toInt

/-- A position some counts further on, modulo 2^32 (R14). -/
def ahead (p : Pos) (n : Nat) : Pos := p + BitVec.ofNat 32 n

/-- One more, saturating at the highest value of the width (spec 00; R76). -/
def satInc {w : Nat} (c : BitVec w) : BitVec w := if c = BitVec.allOnes w then c else c + 1

/-- `n` more, saturating (spec 00). -/
def satAdd (c : Counter) (n : Nat) : Counter := BitVec.ofNat 32 (min (c.toNat + n) 4294967295)

/-- clamp(x, lo, hi) (spec 00, "Numbers and names"). -/
def clamp (x lo hi : Nat) : Nat := if x < lo then lo else if hi < x then hi else x

/-- The four banks in order. -/
def BankIx.all : List BankIx := [0, 1, 2, 3]

/-- A Bank Unit by number. -/
def State.bank (s : State) (b : BankIx) : BankUnit := s.banks[b]

/-- Replace a Bank Unit. -/
def State.setBank (s : State) (b : BankIx) (u : BankUnit) : State := { s with banks := s.banks.set b u }

/-- The reports on their way to or from a bank. -/
def State.bankHanded (s : State) (b : BankIx) : BankHanded := s.handed.banks[b]

/-- Replace the reports of a bank. -/
def State.setBankHanded (s : State) (b : BankIx) (h : BankHanded) : State :=
  { s with handed := { s.handed with banks := s.handed.banks.set b h } }

/-- The link of a port. -/
def State.link (s : State) : PortId → Link
  | .u => s.portU.link
  | .d => s.portD.link

/-- Replace the link of a port. -/
def State.setLink (s : State) (p : PortId) (l : Link) : State :=
  match p with
  | .u => { s with portU := { s.portU with link := l } }
  | .d => { s with portD := { s.portD with link := l } }

/-- A port is LINKED (R155). -/
def State.linked (s : State) (p : PortId) : Bool := (s.link p).state = .linked

/-! ## The transmit lanes -/

/-- The waiting FIRE frame of the lowest-numbered bank that has one (R163). -/
def firstFire (v : Vector (Option Frame) 4) : Option (BankIx × Frame) :=
  BankIx.all.findSome? fun b => v[b].map fun f => (b, f)

/-- The arbiter starts the next frame on Port D's forward lane: FIRE by bank, then DRIVE in issue order, then the oldest
relayed frame (R163). -/
def startForward (s : State) : State :=
  match firstFire s.portD.fire with
  | some (b, f) => { s with portD := { s.portD with tx := some (.own f), fire := s.portD.fire.set b none } }
  | none =>
    match s.portD.drive with
    | (_, f) :: rest => { s with portD := { s.portD with tx := some (.own f), drive := rest } }
    | [] =>
      match s.portD.relay with
      | bytes :: rest => { s with portD := { s.portD with tx := some (.relayed bytes), relay := rest } }
      | [] => s

/-- The oldest frame of the return queue starts on Port U's return lane (R164). -/
def startReturn (s : State) : State :=
  match s.portU.queue with
  | [] => s
  | f :: rest => { s with portU := { s.portU with tx := some f, queue := rest } }

/-- "Each time the lane is free while Port D is LINKED, the arbiter starts the next frame" (R163): done wherever the lane
becomes free, a frame is handed over, or the port becomes LINKED. -/
def offerForward (s : State) : State := if s.linked .d ∧ s.portD.tx = none then startForward s else s

/-- A SOFT RESET is due to be performed (R179). -/
def SoftReset.isDue : SoftReset → Bool
  | .due _ => true
  | .none => false
  | .waiting => false

/-- While Port U is LINKED its free lane takes the oldest frame (R164): done wherever the lane becomes free, a frame is
queued, or the port becomes LINKED. While a SOFT RESET is due no frame starts, since the reset empties the queue at that
moment (R170, R179; log 12). -/
def offerReturn (s : State) : State :=
  if s.linked .u ∧ s.portU.tx = none ∧ s.mgmt.softReset.isDue = false then startReturn s else s

/-- An answer or notice joins the return queue, or is dropped and counted when 8 frames wait there (R164). -/
def pushOwn (f : Frame) (s : State) : State :=
  if s.portU.queue.length < Config.returnCapacity then
    offerReturn { s with portU := { s.portU with queue := s.portU.queue ++ [.own f] } }
  else { s with portU := { s.portU with returnDrops := satInc s.portU.returnDrops } }

/-- The present value of a station's command (R131). -/
def Station.value (st : Station) : StationId → Nat
  | .rotor => st.setpoint
  | .splitter => st.splitter
  | .feeder => match st.command with
    | .release => 0
    | .hold => 1

/-- The node of a station as the STATION table holds it (R131). -/
def Station.node (st : Station) : StationId → Nat
  | .rotor => st.entry.rotorNode
  | .splitter => st.entry.splitterNode
  | .feeder => st.entry.feederNode

/-- The Station Controller issues a DRIVE frame: while Port D is LINKED it joins the end of the DRIVE order and removes a
waiting frame of the same station; otherwise nothing is built (R131, R163). -/
def issueDrive (st : StationId) (s : State) : State :=
  if s.linked .d then
    offerForward
      { s with portD := { s.portD with
        drive := s.portD.drive.filter (fun x => x.1 ≠ st) ++ [(st, driveFrame st (s.station.node st) (s.station.value st))] } }
  else s

/-- A Bank Unit hands a FIRE frame to the arbiter: not built unless Port D is LINKED (R83, R107); a waiting frame of the
bank is replaced and counted as an overrun (R163). -/
def handFire (b : BankIx) (slot : BitVec 8) (s : State) : State :=
  if s.linked .d then
    let u := s.bank b
    let f := fireFrame u.desc.node slot u.desc.lanes u.latched
    offerForward { s with portD := { s.portD with
        fire := s.portD.fire.set b (some f)
        fireOverruns := if s.portD.fire[b].isSome then satInc s.portD.fireOverruns else s.portD.fireOverruns } }
  else s

/-- The count of the Item Track is reported to the Station Controller after each change: at occ_high or above OCCUPANCY is
to be set, at occ_low or below cleared, between the two left (R35). -/
def reportOccupancy (s : State) : State :=
  if s.mgmt.line.occHigh ≤ s.track.length then
    { s with handed := { s.handed with occupancy := s.handed.occupancy ++ [true] } }
  else if s.track.length ≤ s.mgmt.line.occLow then
    { s with handed := { s.handed with occupancy := s.handed.occupancy ++ [false] } }
  else s

/-- The image of lanes 0 to n - 1 that a choice of lanes gives; every lane above is OFF. -/
def imageOf : Nat → (Nat → Bool) → Image
  | 0, _ => 0
  | n + 1, f => if f n then imageOf n f ||| BitVec.twoPow 128 n else imageOf n f

end Sys2Proof.Machine
end

