-- ==== Sys2Proof/Machine/Compose.lean ====
section
/-! DEFINITION. Composition of one image (sections 5.3 to 5.5): demand, blocked and hold lanes, candidates, conflicts,
budget, and the bookkeeping of runs, heat and windows. -/

namespace Sys2Proof.Machine

/-- What a Bank Unit reads from outside itself as it takes a boundary (R82, R88): the reference P, C, the stall state, and
whether Port D is LINKED. -/
structure Conditions where
  p : Pos
  c : Nat
  stalled : Bool
  linked : Bool
  deriving DecidableEq, Repr

/-- A mode in which lanes are composed from the lists (R105). -/
def Mode.firing (m : Mode) : Bool := m = .run || m = .drain

/-- A window demands in the next slot: the open test, widened to 1 at C = 0 and met by a TRIMMED window, and the close
test (R87). -/
def Window.demands (k : Conditions) (w : Window) : Bool :=
  (decide (sdiff w.openPos k.p < (max k.c 1 : Nat)) || w.trimmed) && decide (0 < sdiff w.closePos k.p)

/-- A lane lies in a window's range. -/
def Window.covers (w : Window) (lane : Nat) : Bool := w.lo ≤ lane && lane ≤ w.hi

/-- A window asks for a lane: in its range and not truncated (R87). -/
def Window.asks (w : Window) (lane : Nat) : Bool := w.covers lane && !w.truncated.getLsbD lane

/-- A lane of a Bank Unit; lanes above 127 do not exist and read as resting. -/
def BankUnit.lane (u : BankUnit) (i : Nat) : Lane := u.lanes.toList.getD i .rest

/-- A lane is blocked (R90). -/
def blocked (k : Conditions) (u : BankUnit) (i : Nat) : Bool :=
  let l := u.lane i
  decide (0 < l.recoveryLeft) || decide (u.desc.maxSlots ≤ l.onRun)
    || (decide (u.desc.kind = .coil) && decide (l.thermal = .cooling)) || u.inhibit || !u.mode.firing || !k.linked

/-- A lane is a hold lane (R91). -/
def holdLane (k : Conditions) (u : BankUnit) (i : Nat) : Bool := !blocked k u i && decide (0 < (u.lane i).holdLeft)

/-- A lane was ON in the slot now beginning: read from the latched image (R89). -/
def BankUnit.wasOn (u : BankUnit) (i : Nat) : Bool := u.latched.getLsbD i

/-- A candidate lane with the values it is ranked by (R92, R94): ON in slot n, eject priority, list position of its first
window. -/
structure Candidate where
  lane : Nat
  wasOn : Bool
  priority : Nat
  first : Nat
  deriving DecidableEq, Repr

/-- The windows of a list that demand and ask for a lane as EJECT windows (R92). -/
def ejectAsks (k : Conditions) (lane : Nat) (w : Window) : Bool := w.kind = .eject && w.demands k && w.asks lane

/-- The windows of a list that demand over a lane as PROTECT windows (R93). -/
def protectCovers (k : Conditions) (lane : Nat) (w : Window) : Bool :=
  w.kind = .protect && w.demands k && w.covers lane

/-- The highest priority among windows (R92, R93). -/
def topPriority (ws : List Window) : Nat := ws.foldl (fun m w => max m w.priority) 0

/-- The candidate a lane is before conflicts are settled, if it is one (R92). -/
def candidate? (k : Conditions) (u : BankUnit) (i : Nat) : Option Candidate :=
  if blocked k u i || holdLane k u i || k.stalled || !u.windows.any (ejectAsks k i) then none
  else some ⟨i, u.wasOn i, topPriority (u.windows.filter (ejectAsks k i)), u.windows.findIdx (ejectAsks k i)⟩

/-- A candidate in conflict is dropped (R93). -/
def conflictDrops (k : Conditions) (u : BankUnit) (c : Candidate) : Bool :=
  u.windows.any (protectCovers k c.lane)
    && match u.desc.conflict with
      | .protectFirst => true
      | .ejectFirst => false
      | .byPriority => decide (c.priority ≤ topPriority (u.windows.filter (protectCovers k c.lane)))

/-- The candidates of a composition, in lane order (R92). -/
def candidates (k : Conditions) (u : BankUnit) : List Candidate := (List.range u.desc.lanes).filterMap (candidate? k u)

/-- The candidates that remain after conflicts (R93). -/
def contenders (k : Conditions) (u : BankUnit) : List Candidate :=
  (candidates k u).filter fun c => !conflictDrops k u c

/-- The bank works on its reserve: an AIR bank in an air-low hold (R94, R101). -/
def BankUnit.onReserve (u : BankUnit) : Bool := u.desc.kind = .air && decide (0 < u.airLow)

/-- The effective budget (R94). -/
def effectiveBudget (k : Conditions) (u : BankUnit) : Nat :=
  if !k.linked then 0 else if u.onReserve then u.desc.reserveBudget else u.desc.budget

/-- A candidate qualifies for the budget in force (R94). -/
def qualifies (u : BankUnit) (c : Candidate) : Bool := !u.onReserve || decide (u.desc.reservePriority ≤ c.priority)

/-- The hold lanes of a composition (R91). -/
def holdLanes (k : Conditions) (u : BankUnit) : List Nat := (List.range u.desc.lanes).filter (holdLane k u)

/-- The capacity left for candidates (R94). -/
def capacity (k : Conditions) (u : BankUnit) : Nat := effectiveBudget k u - (holdLanes k u).length

/-- The ranking keys in turn: ON lanes first, higher eject priority, earlier first window, lower lane (R94). -/
def Candidate.before (a b : Candidate) : Bool :=
  if a.wasOn ≠ b.wasOn then a.wasOn
  else if a.priority ≠ b.priority then decide (b.priority < a.priority)
  else if a.first ≠ b.first then decide (a.first < b.first)
  else decide (a.lane < b.lane)

/-- The qualifying contenders that are among the first `capacity` of the ranking (R94). -/
def granted (k : Conditions) (u : BankUnit) : List Candidate :=
  let q := (contenders k u).filter (qualifies u)
  q.filter fun c => decide ((q.filter (fun d => d.before c)).length < capacity k u)

/-- The composed image: hold lanes and granted lanes ON (R91, R94). -/
def composeImage (k : Conditions) (u : BankUnit) : Image :=
  let on := holdLanes k u ++ (granted k u).map (·.lane)
  imageOf u.desc.lanes fun i => on.contains i

/-- A lane's on_run once the image is settled (R95). -/
def nextOnRun (on was : Bool) (l : Lane) : Nat := if !on then 0 else if was then l.onRun + 1 else 1

/-- The run state of a composed lane (R95), its recovery set when the run reaches max_slots (R96). -/
def nextRun (d : BankEntry) (on was : Bool) (l : Lane) : Lane :=
  let run := nextOnRun on was l
  if !on then { l with onRun := 0, holdLeft := 0, recoveryLeft := l.recoveryLeft - 1 }
  else
    { l with
      onRun := run
      holdLeft := if was then l.holdLeft - 1 else d.minSlots - 1
      recoveryLeft := if run = d.maxSlots then d.recoverySlots else l.recoveryLeft }

/-- The heat of a coil lane after a slot (R98). -/
def nextHeat (d : BankEntry) (on : Bool) (l : Lane) : Nat :=
  if on then min (l.heat + d.heatOn) 65535 else l.heat - d.cool

/-- Heat and thermal state of a composed lane; an AIR bank updates neither (R98). -/
def nextThermal (d : BankEntry) (on : Bool) (l : Lane) : Lane :=
  if d.kind = .coil then
    let heat := nextHeat d on l
    { l with
      heat := heat
      thermal := match l.thermal with
        | .normal => if d.heatTrip ≤ heat then .cooling else .normal
        | .cooling => if heat ≤ d.heatResume then .normal else .cooling }
  else l

/-- The lanes after a composition: those below `lanes` updated from the image, those above kept (R63, R95, R98). -/
def nextLanes (u : BankUnit) (image : Image) : Vector Lane 128 :=
  Vector.ofFn fun i : Fin 128 =>
    let l := u.lanes[i]
    if i.val < u.desc.lanes then
      let on := image.getLsbD i
      nextThermal u.desc on (nextRun u.desc on (u.wasOn i) l)
    else l

/-- The lanes that trip in a composition: NORMAL before, COOLING after (R99). -/
def trips (u : BankUnit) (lanes : Vector Lane 128) : Nat :=
  ((List.range u.desc.lanes).filter fun i =>
    decide ((u.lane i).thermal = .normal) && decide ((lanes.toList.getD i .rest).thermal = .cooling)).length

/-- Every lane of a range is ON (R97). -/
def allOn (image : Image) (lo hi : Nat) : Bool := (List.range (hi + 1)).all fun i => decide (i < lo) || image.getLsbD i

/-- At least one lane of a range is ON (R97). -/
def anyOn (image : Image) (lo hi : Nat) : Bool := (List.range (hi + 1)).any fun i => decide (lo ≤ i) && image.getLsbD i

/-- A window after a composition: OPEN once it demands (R87), protect_denied when one of its candidate lanes was dropped
(R93), truncated lanes under TRUNCATE (R96), and its slot counts (R97). -/
def nextWindow (k : Conditions) (u : BankUnit) (image : Image) (lanes : Vector Lane 128) (w : Window) : Window :=
  if !w.demands k then w
  else
    let dropped := (candidates k u).any fun c => conflictDrops k u c && w.asks c.lane
    let ended := imageOf u.desc.lanes fun i =>
      w.asks i && image.getLsbD i && decide ((lanes.toList.getD i .rest).onRun = u.desc.maxSlots)
    let w1 : Window := { w with state := .opened, due := satInc w.due, any := if anyOn image w.lo w.hi then satInc w.any else w.any }
    match w.kind with
    | .protect => w1
    | .eject =>
      { w1 with
        full := if allOn image w.lo w.hi then satInc w.full else w.full
        protectDenied := w.protectDenied || dropped
        truncated := if u.desc.longPolicy = .truncate then w.truncated ||| ended else w.truncated }

/-- Step 4 of a boundary: the image of slot n + 1 from the list, the lane state and the conditions (R82), with the counts
of budget denials (R94) and coil trips (R99). -/
def compose (k : Conditions) (u : BankUnit) : BankUnit :=
  let image := composeImage k u
  let lanes := nextLanes u image
  { u with
    composed := image
    lanes := lanes
    windows := u.windows.map (nextWindow k u image lanes)
    counters := { u.counters with
      budgetDenied := satAdd u.counters.budgetDenied ((contenders k u).length - (granted k u).length)
      coilTrips := satAdd u.counters.coilTrips (trips u lanes) } }

end Sys2Proof.Machine
end

