-- ==== Sys2Proof/Machine/Flags.lean ====
section
/-! DEFINITION. Event flags, the event mask, ALERT and NOTICE frames (R181 to R183). -/

namespace Sys2Proof.Machine

/-- The fifteen event flags, in the order of R181. -/
inductive EventFlag where
  | trackFull | windowDrop | detectRefused | blind | downlinkLost | linkWarn | relayDrop | airLow | coilTrip
  | beltStall | beltReverse | encoder | drained | drainTimeout | fault
  deriving DecidableEq, Repr

/-- The flag number: the row of the table of R181 counted from TRACK_FULL as 0 (R191). -/
def EventFlag.num : EventFlag → Nat
  | .trackFull => 0
  | .windowDrop => 1
  | .detectRefused => 2
  | .blind => 3
  | .downlinkLost => 4
  | .linkWarn => 5
  | .relayDrop => 6
  | .airLow => 7
  | .coilTrip => 8
  | .beltStall => 9
  | .beltReverse => 10
  | .encoder => 11
  | .drained => 12
  | .drainTimeout => 13
  | .fault => 14

/-- The flags in the order of the table of R181. -/
def EventFlag.all : List EventFlag :=
  [.trackFull, .windowDrop, .detectRefused, .blind, .downlinkLost, .linkWarn, .relayDrop, .airLow, .coilTrip,
   .beltStall, .beltReverse, .encoder, .drained, .drainTimeout, .fault]

/-- ALERT is asserted while at least one flag is both set and admitted (R182). -/
def alertOf (flags mask : BitVec 15) : Bool := flags &&& mask ≠ 0

/-- Replace the flags and recompute ALERT (R182). -/
def setFlags (flags : BitVec 15) (s : State) : State :=
  { s with mgmt := { s.mgmt with flags := flags, alert := alertOf flags s.mgmt.mask } }

/-- Replace the mask and recompute ALERT (R182). -/
def setEventMask (mask : BitVec 15) (s : State) : State :=
  { s with mgmt := { s.mgmt with mask := mask, alert := alertOf s.mgmt.flags mask } }

/-- A block raises one flag: a set flag stays set; a clear one is set and, when admitted, queues one NOTICE with the TP of
that moment (R181, R183). -/
def raiseOne (f : EventFlag) (s : State) : State :=
  if s.mgmt.flags.getLsbD f.num then s
  else
    let s1 := setFlags (s.mgmt.flags ||| BitVec.twoPow 15 f.num) s
    if s.mgmt.mask.getLsbD f.num then pushOwn (noticeFrame f.num s.pos.tp) s1 else s1

/-- One event raises some flags: NOTICE frames are queued in the order of the flag table (R183). -/
def raise (fs : List EventFlag) (s : State) : State :=
  (EventFlag.all.filter (fun f => f ∈ fs)).foldl (fun s f => raiseOne f s) s

end Sys2Proof.Machine
end

