-- ==== Sys2Proof/Machine/Banks.lean ====
section
/-! DEFINITION. The Bank Units' events: the slot boundary, mode changes, driver status, emergency all-off, flush
(spec 05). -/

namespace Sys2Proof.Machine

/-- The outcomes of a retired window that was listed (R85, R86, R108). -/
inductive Outcome where
  | fired | partialServed | suppressed | missed | kept | breached | abandoned
  deriving DecidableEq, Repr

/-- The outcome of a window that retires at a boundary (R85, R86). -/
def Window.outcome (w : Window) : Outcome :=
  match w.kind with
  | .eject =>
    if w.due ≠ 0 ∧ w.full = w.due then .fired
    else if w.any ≠ 0 then .partialServed
    else if w.protectDenied then .suppressed
    else .missed
  | .protect => if w.any = 0 then .kept else .breached

/-- One more in the counter of an outcome (R111). -/
def BankCounters.countOutcome (c : BankCounters) : Outcome → BankCounters
  | .fired => { c with fired := satInc c.fired }
  | .partialServed => { c with partialServed := satInc c.partialServed }
  | .suppressed => { c with suppressed := satInc c.suppressed }
  | .missed => { c with missed := satInc c.missed }
  | .kept => { c with kept := satInc c.kept }
  | .breached => { c with breached := satInc c.breached }
  | .abandoned => { c with abandoned := satInc c.abandoned }

/-- A window has closed against the reference P (R84). -/
def Window.closed (p : Pos) (w : Window) : Bool := decide (sdiff w.closePos p ≤ 0)

/-- Step 3 of a boundary at the Bank Unit: closed windows leave the list and are counted by outcome (R84). -/
def retireClosed (p : Pos) (u : BankUnit) : BankUnit :=
  { u with
    windows := u.windows.filter fun w => !w.closed p
    counters := (u.windows.filter fun w => w.closed p).foldl (fun c w => c.countOutcome w.outcome) u.counters }

/-- The combination a Bank Unit reports to the Station Controller: an AIR bank with air_feed_hold in an air-low hold
(R102). -/
def BankUnit.holdsFeeder (u : BankUnit) : Bool := u.onReserve && u.desc.airFeedHold

/-- A Bank Unit reports a change of that combination (R102). -/
def reportAir (b : BankIx) (s : State) : State :=
  let u := s.bank b
  if u.holdsFeeder = u.airReport then s
  else
    let h := s.bankHanded b
    (s.setBank b { u with airReport := u.holdsFeeder }).setBankHanded b { h with air := h.air ++ [u.holdsFeeder] }

/-- The end of a hold that ran out at a boundary: the AIR report is withdrawn (R101, R102; log 19). -/
def endHold (b : BankIx) (s : State) : State :=
  let u := s.bank b
  if u.holdEnd then
    let s1 := s.setBank b { u with holdEnd := false, airReport := false }
    if u.airReport then
      let h := s.bankHanded b
      s1.setBankHanded b { h with air := h.air ++ [false] }
    else s1
  else s

/-- Step 5 of a boundary: the hold counts down, and a hold that reaches 0 ends (R101). -/
def countHold (u : BankUnit) : BankUnit :=
  if u.airLow = 0 then u else { u with airLow := u.airLow - 1, holdEnd := u.holdEnd || decide (u.airLow = 1) }

/-- The conditions a Bank Unit reads as it takes a boundary (R15, R82, R88). -/
def conditions (s : State) : Conditions where
  p := ahead s.pos.tp s.pos.c
  c := s.pos.c
  stalled := s.pos.stall = .stalled
  linked := s.linked .d

/-- Steps 2 to 5 of a boundary inside a bank in use (R82). -/
def turnSlot (k : Conditions) (u : BankUnit) : BankUnit := countHold (compose k (retireClosed k.p u))

/-- Boundary n at a bank in use: latch and send, retire and report, compose, count the hold (R82). -/
def boundaryInUse (b : BankIx) (n : BitVec 8) (s : State) : State :=
  let u := s.bank b
  let s1 := handFire b n (s.setBank b { u with latched := u.composed })
  let u1 := s1.bank b
  let k := conditions s1
  let u2 := turnSlot k u1
  let h := s1.bankHanded b
  let s2 := (s1.setBank b u2).setBankHanded b
    { h with retired := h.retired ++ (u1.windows.filter fun w => w.closed k.p).map (·.item) }
  if trips u1 u2.lanes = 0 then s2 else raise [.coilTrip] s2

/-- A boundary at a DISABLED bank: no frame, both images all-off, the hold counted down, lanes kept (R109). -/
def boundaryDisabled (b : BankIx) (s : State) : State :=
  s.setBank b (countHold { s.bank b with composed := 0, latched := 0 })

/-- A Bank Unit takes the oldest boundary handed to it (R11, R82, R109). -/
def bankBoundary (b : BankIx) (s : State) : State :=
  match (s.bankHanded b).boundaries with
  | [] => s
  | n :: rest =>
    let s1 := s.setBankHanded b { s.bankHanded b with boundaries := rest }
    if (s.bank b).desc.kind = .disabled then boundaryDisabled b s1 else boundaryInUse b n s1

/-- The Position Unit's end of a slot: the number advances, the next slot has the length slot_us, and the boundary is
handed to each of the four Bank Units (R11, R12). -/
def clockBoundary (s : State) : State :=
  let n := s.pos.slot + 1
  { s with
    pos := { s.pos with slot := n, slotLen := s.mgmt.line.slotUs }
    handed := { s.handed with
      banks := s.handed.banks.map fun h => { h with boundaries := h.boundaries ++ [n] } } }

/-- Replace the composed image with all-off; the lanes that the replaced image held ON lose their run and hold (R105,
R107). -/
def clearComposed (u : BankUnit) : BankUnit :=
  { u with
    composed := 0
    lanes := Vector.ofFn fun i : Fin 128 =>
      if u.composed.getLsbD i then { u.lanes[i] with onRun := 0, holdLeft := 0 } else u.lanes[i] }

/-- A Bank Unit takes a mode: entry into STANDBY, TEST or FAULT clears the composed image (R105). -/
def takeMode (m : Mode) (u : BankUnit) : BankUnit :=
  let u1 := { u with mode := m }
  if m.firing then u1 else clearComposed u1

/-- The all-off of an emergency stop at one bank: a bank in use hands an all-off FIRE frame with the number of the slot in
progress and clears both images (R107); a DISABLED bank does nothing (R109). -/
def allOffBank (s : State) (b : BankIx) : State :=
  let u := s.bank b
  if u.desc.kind = .disabled then s
  else handFire b s.pos.slot (s.setBank b { clearComposed u with latched := 0 })

/-- Every bank in use goes all-off (R107), in the order of the bank numbers, which is the model's choice (log 28). -/
def allOff (s : State) : State := BankIx.all.foldl allOffBank s

/-- A bank's part of a flush: every window retired ABANDONED; the change of mode that comes with it is `flushInto`'s (R108). -/
def flushBank (u : BankUnit) : BankUnit :=
  { u with
    windows := []
    counters := { u.counters with abandoned := satAdd u.counters.abandoned u.windows.length } }

/-- A flush empties every list and the track together; retirement reports not yet taken go with it (R33, R108). -/
def flushLine (s : State) : State :=
  reportOccupancy
    { s with
      banks := s.banks.map flushBank
      track := []
      handed := { s.handed with banks := s.handed.banks.map fun h => { h with retired := [] } } }

/-- A Bank Unit takes a STATUS frame: the air-low length at an AIR bank, the inhibit indication at any bank in use (R100,
R101, R103). -/
def takeStatus (d : DriverStatus) (u : BankUnit) : BankUnit :=
  let u1 := { u with inhibit := d.inhibit }
  if u.desc.kind = .air then
    { u1 with
      airLow := d.airLow
      counters := if d.airLow ≠ 0 ∧ u.airLow = 0 then { u.counters with airLow := satInc u.counters.airLow } else u.counters }
  else u1

/-- A STATUS frame starts a hold from no hold (R101). -/
def startsHold (d : DriverStatus) (u : BankUnit) : Bool := u.desc.kind = .air && d.airLow ≠ 0 && u.airLow = 0

/-! ## The commands -/

/-- SLOT_BOUNDARY (R11, R82). -/
def execSlotBoundary (part : BoundaryStep) : State → Answered :=
  whenRunning fun s =>
    match part with
    | .clock => clockBoundary s
    | .bank b => bankBoundary b s

/-- AIR_LOW_HOLD_END (R101). -/
def execAirLowHoldEnd (b : BankIx) : State → Answered := whenRunning (endHold b)

/-- BANK_MODE_CHANGE: the oldest mode change handed to the bank (R105, R135). -/
def execBankModeChange (b : BankIx) : State → Answered :=
  whenRunning fun s =>
    match (s.bankHanded b).modes with
    | [] => s
    | m :: rest => (s.setBank b (takeMode m (s.bank b))).setBankHanded b { s.bankHanded b with modes := rest }

/-- STATUS_FRAME: the oldest STATUS frame handed to the bank; a DISABLED bank takes none (R100, R101, R103, R109). -/
def execStatusFrame (b : BankIx) : State → Answered :=
  whenRunning fun s =>
    match (s.bankHanded b).status with
    | [] => s
    | d :: rest =>
      let s1 := s.setBankHanded b { s.bankHanded b with status := rest }
      if (s.bank b).desc.kind = .disabled then s1
      else
        let s2 := endHold b s1
        let s3 := reportAir b (s2.setBank b (takeStatus d (s2.bank b)))
        if startsHold d (s2.bank b) then raise [.airLow] s3 else s3

/-- FLUSH (R33, R108). -/
def execFlush : State → Answered := whenRunning flushLine

end Sys2Proof.Machine
end

