-- ==== Sys2Proof/Machine/Operands.lean ====
section
/-! DEFINITION. The operand forms of the requests: decoding a REQUEST payload (R192, R193), reading and checking written
entries (R54, R60, R61, R116, R119, R175, R194), and the bytes of entries, views, status and counters in an answer
(R194, R195). -/

namespace Sys2Proof.Machine

/-! ## Requests -/

/-- The answer codes (R173, R192). -/
inductive AnswerCode where
  | ok | busy | unknown | range | index | mode | notReady | activeSet
  deriving DecidableEq, Repr

/-- The numbers of the answer codes (R192). -/
def AnswerCode.num : AnswerCode → Nat
  | .ok => 0
  | .busy => 1
  | .unknown => 2
  | .range => 3
  | .index => 4
  | .mode => 5
  | .notReady => 6
  | .activeSet => 7

/-- The conditions that a NOT_READY answer names (R193). -/
inductive NotReady where
  | uplink | downlink | noBank | nodeClash | stopAsserted | proving
  deriving DecidableEq, Repr

/-- The condition byte of a NOT_READY answer (R193). -/
def NotReady.num : NotReady → Nat
  | .uplink => 1
  | .downlink => 2
  | .noBank => 3
  | .nodeClash => 4
  | .stopAsserted => 5
  | .proving => 6

/-- A request's answer: its code and the result bytes after it (R192). -/
structure Answer where
  code : AnswerCode
  results : List Byte
  deriving DecidableEq, Repr

/-- OK with results. -/
def Answer.okWith (results : List Byte) : Answer := ⟨.ok, results⟩
/-- OK without results. -/
def Answer.done : Answer := ⟨.ok, []⟩
/-- A refusal; it carries no results (R193). -/
def Answer.refuse (c : AnswerCode) : Answer := ⟨c, []⟩
/-- NOT_READY with its condition byte (R193). -/
def Answer.notReady (c : NotReady) : Answer := ⟨.notReady, u8 c.num⟩

/-- The tables (R174); a recipe table names its set. -/
inductive TableId where
  | line | station | band | bank | recipe (set : Fin 2) | track | windows
  deriving DecidableEq, Repr

/-- The table codes (R192). -/
def TableId.ofCode : Nat → Option TableId
  | 0 => some .line
  | 1 => some .station
  | 2 => some .band
  | 3 => some .bank
  | 4 => some (.recipe 0)
  | 5 => some (.recipe 1)
  | 6 => some .track
  | 7 => some .windows
  | _ => none

/-- The number of a table (R192). -/
def TableId.code : TableId → Nat
  | .line => 0
  | .station => 1
  | .band => 2
  | .bank => 3
  | .recipe set => 4 + set.val
  | .track => 6
  | .windows => 7

/-- The length of a written entry (R194); the read-only tables have none. -/
def TableId.entryBytes : TableId → Option Nat
  | .line => some 29
  | .station => some 14
  | .band => some 8
  | .bank => some 32
  | .recipe _ => some 18
  | .track => none
  | .windows => none

/-- The counter groups (R177). -/
inductive GroupId where
  | intake | tally (set : Fin 2) | bank | link
  deriving DecidableEq, Repr

/-- The group codes (R192). -/
def GroupId.ofCode : Nat → Option GroupId
  | 0 => some .intake
  | 1 => some (.tally 0)
  | 2 => some (.tally 1)
  | 3 => some .bank
  | 4 => some .link
  | _ => none

/-- The number of a group (R192). -/
def GroupId.code : GroupId → Nat
  | .intake => 0
  | .tally set => 1 + set.val
  | .bank => 3
  | .link => 4

/-- A request once decoded (R192, R193). -/
inductive Decoded where
  /-- The decoding failed; the answer is UNKNOWN or RANGE (R193). -/
  | bad (code : AnswerCode)
  | readTable (t : TableId) (bank first count : Nat)
  | writeTable (t : TableId) (index : Nat) (entry : List Byte)
  | start
  | stop
  | prove (port role duration : Nat)
  | clearFault
  | softReset
  | selectSet (set : Nat)
  | holdFeed
  | releaseFeed
  | readStatus
  | readCounters (g : GroupId) (bank : Nat)
  | clearCounters (g : GroupId) (bank : Nat)
  | clearEvents (flags : BitVec 15)
  | setMask (mask : BitVec 15)
  deriving DecidableEq, Repr

/-- A request without arguments; any other length is RANGE (R193). -/
def decodeBare (d : Decoded) (args : List Byte) : Decoded := if args.isEmpty then d else .bad .range

/-- READ TABLE: table, bank, first index (2), count (R192); first the table code, then the length (R193). -/
def decodeReadTable (args : List Byte) : Decoded :=
  if args.isEmpty then .bad .range
  else match TableId.ofCode (fld args 0 1) with
    | none => .bad .unknown
    | some t => if args.length = 5 then .readTable t (fld args 1 1) (fld args 2 2) (fld args 4 1) else .bad .range

/-- WRITE TABLE: table, index, the entry (R192). A write naming TRACK or WINDOWS decodes whatever its length; any other
needs 2 bytes plus the entry length (R193). -/
def decodeWriteTable (args : List Byte) : Decoded :=
  if args.isEmpty then .bad .range
  else match TableId.ofCode (fld args 0 1) with
    | none => .bad .unknown
    | some t => match t.entryBytes with
      | none => .writeTable t (fld args 1 1) (args.drop 2)
      | some n => if args.length = 2 + n then .writeTable t (fld args 1 1) (args.drop 2) else .bad .range

/-- READ COUNTERS and CLEAR COUNTERS: group, bank (R192). -/
def decodeGroup (mk : GroupId → Nat → Decoded) (args : List Byte) : Decoded :=
  if args.isEmpty then .bad .range
  else match GroupId.ofCode (fld args 0 1) with
    | none => .bad .unknown
    | some g => if args.length = 2 then mk g (fld args 1 1) else .bad .range

/-- A flag set or mask of two bytes; bit 15 is ignored (R193). -/
def decodeFlags (mk : BitVec 15 → Decoded) (args : List Byte) : Decoded :=
  if args.length = 2 then mk (BitVec.ofNat 15 (fld args 0 2)) else .bad .range

/-- The Management Engine decodes a REQUEST payload (R193). -/
def decodeRequest (payload : List Byte) : Decoded :=
  if payload.length < 2 then .bad .range
  else
    let args := payload.drop 2
    match fld payload 1 1 with
    | 1 => decodeReadTable args
    | 2 => decodeWriteTable args
    | 3 => decodeBare .start args
    | 4 => decodeBare .stop args
    | 5 => if args.length = 4 then .prove (fld args 0 1) (fld args 1 1) (fld args 2 2) else .bad .range
    | 6 => decodeBare .clearFault args
    | 7 => decodeBare .softReset args
    | 8 => if args.length = 1 then .selectSet (fld args 0 1) else .bad .range
    | 9 => decodeBare .holdFeed args
    | 10 => decodeBare .releaseFeed args
    | 11 => decodeBare .readStatus args
    | 12 => decodeGroup .readCounters args
    | 13 => decodeGroup .clearCounters args
    | 14 => decodeFlags .clearEvents args
    | 15 => decodeFlags .setMask args
    | _ => .bad .unknown

/-- The ANSWER frame to a request: to its source, its tag and request code, 0 for either that its payload does not hold
(R173, R192, R193). A payload of fewer than 2 bytes takes the request code as 0. -/
def answerFrame (r : Request) (a : Answer) : Frame :=
  ⟨r.src, .answer, [r.payload.getD 0 0, r.payload.getD 1 0] ++ u8 a.code.num ++ a.results⟩

/-! ## Entries written -/

/-- The LINE entry of 29 bytes (R194). -/
def LineEntry.ofBytes (bs : List Byte) : LineEntry where
  slotUs := fld bs 0 2
  maxItemLen := fld bs 2 2
  skewLimit := fld bs 4 2
  staleLimit := fld bs 6 3
  stallW := fld bs 9 2
  reverseLimit := fld bs 11 2
  encFaultLimit := fld bs 13 1
  occHigh := fld bs 14 2
  occLow := fld bs 16 2
  drainLimit := fld bs 18 3
  segLen := fld bs 21 2
  linkWarnOn := fld bs 23 2
  linkWarnOff := fld bs 25 2
  linkLoss := fld bs 27 2

/-- The ranges and relations of R175. -/
def LineEntry.inRange (e : LineEntry) : Bool :=
  100 ≤ e.slotUs && e.slotUs ≤ 2000 && 16 ≤ e.maxItemLen && e.maxItemLen ≤ 65535 && e.skewLimit ≤ 4095
    && e.staleLimit ≤ 1048575 && e.stallW ≤ 1023 && e.reverseLimit ≤ 65535 && 1 ≤ e.encFaultLimit
    && e.encFaultLimit ≤ 255 && 1 ≤ e.occHigh && e.occHigh ≤ 1024 && e.occLow < e.occHigh && 1 ≤ e.drainLimit
    && e.drainLimit ≤ 16777215 && 256 ≤ e.segLen && e.segLen ≤ 65535 && 1 ≤ e.linkWarnOn && e.linkWarnOn ≤ 65535
    && e.linkWarnOff < e.linkWarnOn && 1 ≤ e.linkLoss && e.linkLoss ≤ 65535

/-- The bytes of a LINE entry (R194). -/
def LineEntry.bytes (e : LineEntry) : List Byte :=
  u16 e.slotUs ++ u16 e.maxItemLen ++ u16 e.skewLimit ++ u24 e.staleLimit ++ u16 e.stallW ++ u16 e.reverseLimit
    ++ u8 e.encFaultLimit ++ u16 e.occHigh ++ u16 e.occLow ++ u24 e.drainLimit ++ u16 e.segLen ++ u16 e.linkWarnOn
    ++ u16 e.linkWarnOff ++ u16 e.linkLoss

/-- The STATION entry of 14 bytes (R194). -/
def StationEntry.ofBytes (bs : List Byte) : StationEntry where
  rotorNode := fld bs 0 1
  splitterNode := fld bs 1 1
  feederNode := fld bs 2 1
  rotMin := fld bs 3 2
  rotMax := fld bs 5 2
  rotIdle := fld bs 7 2
  slew := fld bs 9 2
  h := fld bs 11 3

/-- A driver or drive node: 16 to 62 (R57, R119). -/
def nodeOk (n : Nat) : Bool := 16 ≤ n && n ≤ 62

/-- The ranges and relation of R119. -/
def StationEntry.inRange (e : StationEntry) : Bool :=
  nodeOk e.rotorNode && nodeOk e.splitterNode && nodeOk e.feederNode && e.rotMin ≤ e.rotMax && e.rotMax ≤ 1500
    && e.rotIdle ≤ 1500 && 1 ≤ e.slew && e.slew ≤ 500 && e.h ≤ 16777215

/-- The bytes of a STATION entry (R194). -/
def StationEntry.bytes (e : StationEntry) : List Byte :=
  u8 e.rotorNode ++ u8 e.splitterNode ++ u8 e.feederNode ++ u16 e.rotMin ++ u16 e.rotMax ++ u16 e.rotIdle
    ++ u16 e.slew ++ u24 e.h

/-- The BAND entry of 8 bytes (R194). -/
def BandEntry.ofBytes (bs : List Byte) : BandEntry := ⟨fld bs 0 4, fld bs 4 2, fld bs 6 2⟩

/-- The ranges of R116. -/
def BandEntry.inRange (e : BandEntry) : Bool := e.t ≤ 134217720 && e.f ≤ 1500 && e.split ≤ 1000

/-- The bytes of a BAND entry (R194). -/
def BandEntry.bytes (e : BandEntry) : List Byte := u32 e.t ++ u16 e.f ++ u16 e.split

/-- Yes-or-no codes (R194). -/
def boolOfCode : Nat → Option Bool
  | 0 => some false
  | 1 => some true
  | _ => none

/-- Bank kind codes (R194). -/
def BankKind.code : BankKind → Nat
  | .disabled => 0
  | .air => 1
  | .coil => 2

/-- Bank kind of a code. -/
def BankKind.ofCode : Nat → Option BankKind
  | 0 => some .disabled
  | 1 => some .air
  | 2 => some .coil
  | _ => none

/-- long_policy codes (R194). -/
def LongPolicy.code : LongPolicy → Nat
  | .chop => 0
  | .truncate => 1

/-- long_policy of a code. -/
def LongPolicy.ofCode : Nat → Option LongPolicy
  | 0 => some .chop
  | 1 => some .truncate
  | _ => none

/-- conflict codes (R194). -/
def ConflictRule.code : ConflictRule → Nat
  | .protectFirst => 0
  | .ejectFirst => 1
  | .byPriority => 2

/-- conflict of a code. -/
def ConflictRule.ofCode : Nat → Option ConflictRule
  | 0 => some .protectFirst
  | 1 => some .ejectFirst
  | 2 => some .byPriority
  | _ => none

/-- The BANK entry of 32 bytes; none when a choice or yes-or-no byte is outside its codes (R194). -/
def BankEntry.ofBytes (bs : List Byte) : Option BankEntry := do
  let kind ← BankKind.ofCode (fld bs 0 1)
  let longPolicy ← LongPolicy.ofCode (fld bs 18 1)
  let conflict ← ConflictRule.ofCode (fld bs 19 1)
  let airFeedHold ← boolOfCode (fld bs 23 1)
  pure
    { kind := kind
      node := fld bs 1 1
      lanes := fld bs 2 1
      laneBase := fld bs 3 1
      sensorsPerLane := fld bs 4 1
      spread := fld bs 5 1
      reach := fld bs 6 3
      leadUs := fld bs 9 2
      pre := fld bs 11 2
      post := fld bs 13 2
      minSlots := fld bs 15 1
      maxSlots := fld bs 16 1
      recoverySlots := fld bs 17 1
      longPolicy := longPolicy
      conflict := conflict
      budget := fld bs 20 1
      reserveBudget := fld bs 21 1
      reservePriority := fld bs 22 1
      airFeedHold := airFeedHold
      heatOn := fld bs 24 2
      cool := fld bs 26 2
      heatTrip := fld bs 28 2
      heatResume := fld bs 30 2 }

/-- The ranges of R57 and the cross-field relations of R61. -/
def BankEntry.inRange (e : BankEntry) : Bool :=
  nodeOk e.node && 1 ≤ e.lanes && e.lanes ≤ 128 && e.laneBase ≤ 191 && 1 ≤ e.sensorsPerLane && e.sensorsPerLane ≤ 8
    && e.spread ≤ 3 && e.reach ≤ 1048575 && e.leadUs ≤ 20000 && e.pre ≤ 1023 && e.post ≤ 1023 && 1 ≤ e.minSlots
    && e.minSlots ≤ 16 && e.minSlots ≤ e.maxSlots && e.maxSlots ≤ 255 && e.recoverySlots ≤ 255 && 1 ≤ e.budget
    && e.budget ≤ e.lanes && e.reserveBudget ≤ e.budget && e.reservePriority ≤ 7 && e.heatOn ≤ 4095 && e.cool ≤ 4095
    && 1 ≤ e.heatTrip && e.heatTrip ≤ 65535 && e.heatResume < e.heatTrip

/-- The bytes of a BANK entry (R194). -/
def BankEntry.bytes (e : BankEntry) : List Byte :=
  [u8 e.kind.code, u8 e.node, u8 e.lanes, u8 e.laneBase, u8 e.sensorsPerLane, u8 e.spread, u24 e.reach, u16 e.leadUs,
   u16 e.pre, u16 e.post, u8 e.minSlots, u8 e.maxSlots, u8 e.recoverySlots, u8 e.longPolicy.code, u8 e.conflict.code,
   u8 e.budget, u8 e.reserveBudget, u8 e.reservePriority, yesNo e.airFeedHold, u16 e.heatOn, u16 e.cool,
   u16 e.heatTrip, u16 e.heatResume].flatten

/-- Action codes (R194). -/
def Action.code : Action → Nat
  | .none => 0
  | .eject => 1
  | .protect => 2

/-- Action of a code. Its own constructor shadows `none` here, hence the full name. -/
def Action.ofCode : Nat → Option Action
  | 0 => some .none
  | 1 => some .eject
  | 2 => some .protect
  | _ => Option.none

/-- The actions, priority and burden_weight of a RECIPE entry (bytes 12 to 17); none when an action is outside its codes
(R54, R194). -/
def RuleResult.ofBytes (bs : List Byte) : Option RuleResult := do
  let a0 ← Action.ofCode (fld bs 12 1)
  let a1 ← Action.ofCode (fld bs 13 1)
  let a2 ← Action.ofCode (fld bs 14 1)
  let a3 ← Action.ofCode (fld bs 15 1)
  pure ⟨#v[a0, a1, a2, a3], fld bs 16 1, fld bs 17 1⟩

/-- Priority at most 7, burden_weight at most 15 (R54). -/
def RuleResult.inRange (r : RuleResult) : Bool := r.priority ≤ 7 && r.burdenWeight ≤ 15

/-- The bytes of actions, priority and burden_weight (R194). -/
def RuleResult.bytes (r : RuleResult) : List Byte :=
  u8 r.actions[0].code ++ u8 r.actions[1].code ++ u8 r.actions[2].code ++ u8 r.actions[3].code ++ u8 r.priority
    ++ u8 r.burdenWeight

/-- The RECIPE entry of 18 bytes at an index 0 to 47 (R194). -/
def Rule.ofBytes (bs : List Byte) : Option Rule := do
  let enabled ← boolOfCode (fld bs 0 1)
  let result ← RuleResult.ofBytes bs
  pure
    { enabled := enabled
      classMask := BitVec.ofNat 16 (fld bs 1 2)
      classValue := BitVec.ofNat 16 (fld bs 3 2)
      areaMin := fld bs 5 2
      areaMax := fld bs 7 2
      confMin := fld bs 9 1
      zoneLo := fld bs 10 1
      zoneHi := fld bs 11 1
      result := result }

/-- The range check of R54. -/
def Rule.inRange (r : Rule) : Bool :=
  r.areaMin ≤ r.areaMax && r.areaMax ≤ 65535 && r.confMin ≤ 255 && r.zoneLo ≤ r.zoneHi && r.zoneHi ≤ 191
    && r.result.inRange

/-- The bytes of a rule (R194). -/
def Rule.bytes (r : Rule) : List Byte :=
  yesNo r.enabled ++ u16 r.classMask.toNat ++ u16 r.classValue.toNat ++ u16 r.areaMin ++ u16 r.areaMax ++ u8 r.confMin
    ++ u8 r.zoneLo ++ u8 r.zoneHi ++ r.result.bytes

/-- The default rule as index 48 reads: its other fields as R52 states. -/
def RuleResult.asRule (r : RuleResult) : Rule := { Rule.default with result := r }

/-- The 49 entries of a recipe table, the default rule last (R39, R52). -/
def RecipeSet.entries (r : RecipeSet) : List Rule := r.rules.toList ++ [r.dflt.asRule]

/-! ## Views and counters read -/

/-- The TRACK item of 34 bytes (R195). -/
def Item.bytes (i : Item) : List Byte :=
  u16 i.id.toNat ++ u32 i.entryPos.toNat ++ u8 i.laneLo ++ u8 i.laneHi ++ u8 i.centroid ++ yesNo i.centroidSent
    ++ u32 i.leadPos.toNat ++ u32 i.trailPos.toNat ++ u16 i.cls.toNat ++ u16 i.area ++ u8 i.confidence ++ optPos i.tag
    ++ yesNo i.touching ++ yesNo i.atEdge ++ yesNo i.clipped ++ u8 i.recipeSet.val ++ u8 i.rule ++ u8 i.pendingBanks.toNat

/-- Window kind codes (R195). -/
def WindowKind.code : WindowKind → Nat
  | .eject => 1
  | .protect => 2

/-- Window state codes (R195). -/
def WindowState.code : WindowState → Nat
  | .waiting => 0
  | .opened => 1

/-- The WINDOWS record of 39 bytes (R195). -/
def Window.bytes (w : Window) : List Byte :=
  u16 w.item.toNat ++ u8 w.kind.code ++ u8 w.lo ++ u8 w.hi ++ u32 w.openPos.toNat ++ u32 w.closePos.toNat
    ++ u8 w.priority ++ u8 w.state.code ++ yesNo w.trimmed ++ u16 w.due.toNat ++ u16 w.full.toNat ++ u16 w.any.toNat
    ++ yesNo w.protectDenied ++ packLanes w.truncated 128

/-- Counters, 4 bytes each (R194, R195). -/
def counterBytes (cs : List Counter) : List Byte := cs.flatMap fun c => u32 c.toNat

/-- The INTAKE group in order (R195). -/
def IntakeCounters.list (c : IntakeCounters) : List Counter :=
  [c.frames, c.records, c.entered, c.passed, c.refusedMode, c.refusedMalformed, c.refusedStale, c.refusedSkew,
   c.refusedOverflow, c.laneClamped, c.clipped, c.framesDropped]

/-- A BANK group in order (R195). -/
def BankCounters.list (c : BankCounters) : List Counter :=
  [c.created, c.uncovered, c.fired, c.partialServed, c.suppressed, c.missed, c.kept, c.breached, c.late, c.dropped,
   c.abandoned, c.budgetDenied, c.airLow, c.coilTrips]

/-- The LINK group: the rows of R171 in order, Port U before Port D (R194, R195). -/
def linkCounters (s : State) : List Counter :=
  let u := s.portU.link
  let d := s.portD.link
  [u.retrains, d.retrains, u.codeErrors, d.codeErrors, u.warnings, d.warnings, u.badFrames, d.badFrames,
   u.misdirected, d.misdirected, s.portD.unknownSource, s.portD.relayDrops, s.portD.fireOverruns, s.portU.relayDrops,
   s.portU.returnDrops]

/-- Mode codes (R195). -/
def Mode.code : Mode → Nat
  | .standby => 0
  | .run => 1
  | .drain => 2
  | .test => 3
  | .fault => 4

/-- Fault cause codes (R195). -/
def FaultCause.code : FaultCause → Nat
  | .none => 0
  | .estop => 1
  | .encoder => 2
  | .reverse => 3

/-- Port state codes (R195). -/
def PortState.code : PortState → Nat
  | .down => 0
  | .training => 1
  | .linked => 2
  | .proving => 3

/-- Stall state codes (R195). -/
def StallState.code : StallState → Nat
  | .moving => 0
  | .stalled => 1

/-- Feeder command codes (R195). -/
def FeederCommand.code : FeederCommand → Nat
  | .release => 0
  | .hold => 1

/-- Proving status codes (R195). -/
def ProvingStatus.code : ProvingStatus → Nat
  | .running => 0
  | .generated => 1
  | .noPattern => 2
  | .clean => 3
  | .errors => 4

/-- Port codes (R192). -/
def portCode : PortId → Nat
  | .u => 0
  | .d => 1

/-- Role codes (R192). -/
def ProvingRole.code : ProvingRole → Nat
  | .generate => 0
  | .check => 1

/-- The hold-reason set, bit k for the k-th reason (R195). -/
def HoldSet.code (h : HoldSet) : Nat :=
  h.mode.toNat + 2 * h.occupancy.toNat + 4 * h.blind.toNat + 8 * h.actuator.toNat + 16 * h.air.toNat
    + 32 * h.operator.toNat

/-- The proving result of a status read; all 0 when absent (R194, R195). -/
def provingBytes : Option ProvingResult → List Byte
  | none => u8 0 ++ u8 0 ++ u8 0 ++ u16 0 ++ u32 0 ++ u8 0 ++ u8 0
  | some r => u8 1 ++ u8 (portCode r.port) ++ u8 r.role.code ++ u16 r.duration ++ u32 r.mismatches.toNat ++ yesNo r.errorSeen
      ++ u8 r.status.code

/-- List count, air-low remaining and inhibit flag of one bank (R112, R195). -/
def bankStatusBytes (u : BankUnit) : List Byte := u16 u.windows.length ++ u16 u.airLow ++ yesNo u.inhibit

/-- The 73 bytes of a READ STATUS (R176, R195). -/
def statusBytes (s : State) : List Byte :=
  [u8 s.mc.mode.code, u8 s.mc.cause.code, optPos s.mc.blindStart, optPos s.mc.blindEnd, u8 s.portU.link.state.code,
   yesNo s.portU.link.warning, u8 s.portD.link.state.code, yesNo s.portD.link.warning, u32 s.pos.tp.toNat,
   u32 s.pos.e.toNat, u16 s.pos.w, u8 s.pos.stall.code, u16 s.track.length, bankStatusBytes s.banks[0],
   bankStatusBytes s.banks[1], bankStatusBytes s.banks[2], bankStatusBytes s.banks[3], u8 s.station.band.val,
   u32 s.station.b, u16 s.station.setpoint, u8 s.station.holds.code, u8 s.station.command.code,
   u16 s.mgmt.flags.toNat, u16 s.mgmt.mask.toNat, provingBytes s.proving.result].flatten

/-- Entries from a first index onward, up to the number asked for, up to the end and up to the most that fit in one
answer (R174). -/
def view {α : Type} (entries : List α) (first count most : Nat) : List α := (entries.drop first).take (min count most)

/-- The results of a READ TABLE: table, bank, first index, count returned, the active set for a recipe table, then the
entries (R192). -/
def tableResults (t : TableId) (bank first count : Nat) (extra : List Byte) (entries : List (List Byte)) : List Byte :=
  u8 t.code ++ u8 bank ++ u16 first ++ u8 count ++ extra ++ entries.flatten

/-- The answer of a READ TABLE: INDEX beyond the last entry (index 0 of an empty track or list excepted), else OK with the
entries (R36, R52, R64, R79, R116, R119, R174, R175). -/
def answerTable {α : Type} (t : TableId) (bank first count most : Nat) (extra : List Byte) (bytes : α → List Byte)
    (entries : List α) : Answer :=
  if entries.length ≤ first ∧ ¬ (first = 0 ∧ entries = []) then .refuse .index
  else
    let out := view entries first count most
    .okWith (tableResults t bank first out.length extra (out.map bytes))

end Sys2Proof.Machine
end

