-- ==== Sys2Proof/Machine/Modes.lean ====
section
/-! DEFINITION. The Mode Controller: changes of mode, faults, drains, blind spans (spec 07). -/

namespace Sys2Proof.Machine

/-- The Mode Controller sets its new mode and hands the change, which comes with no flush, to each Bank Unit and the Station
Controller (R135). -/
def changeMode (m : Mode) (s : State) : State :=
  { s with
    mc := { s.mc with mode := m }
    handed := { s.handed with
      stationModes := s.handed.stationModes ++ [m]
      banks := s.handed.banks.map fun h => { h with modes := h.modes ++ [m] } } }

/-- A change of mode that comes with a flush (R33, R135). Each Bank Unit takes it with the flush, so that the next boundary
composes in the new mode (R108), and changes handed to it earlier before that, of which the entry into STANDBY or FAULT leaves
nothing (`takeMode_after_waiting`; log 5). The Station Controller takes it as an event of its own. -/
def flushInto (m : Mode) (s : State) : State :=
  let s1 := flushLine s
  { s1 with
    mc := { s1.mc with mode := m }
    banks := s1.banks.map (takeMode m)
    handed := { s1.handed with
      stationModes := s1.handed.stationModes ++ [m]
      banks := s1.handed.banks.map fun h => { h with modes := [] } } }

/-- Entry into FAULT before its flag is raised: the cause, the flush, the mode, the hand-on (R148). -/
def faultEntry (cause : FaultCause) (s : State) : State := flushInto .fault { s with mc := { s.mc with cause := cause } }

/-- The Mode Controller takes an emergency stop: every bank in use goes all-off, and the line enters FAULT with cause ESTOP
unless it is in FAULT already; the FAULT flag is raised (R107, R146, R148). -/
def takeEmergencyStop (s : State) : State :=
  let s1 := allOff s
  if s.mc.mode = .fault then raise [.fault] s1 else raise [.fault] (faultEntry .estop s1)

/-- The Mode Controller reads STOPn at the release of RESETn or at the end of a SOFT RESET, and takes an emergency stop
when it is asserted (R134, R152). -/
def readStop (stop : StopLevel) (s : State) : State :=
  let s1 := { s with stopn := stop }
  if stop = .asserted then takeEmergencyStop s1 else s1

/-- A drain ends with a flush in STANDBY (R141, R142). -/
def abandonDrain (s : State) : State := flushInto .standby s

/-- A change of mode to STANDBY with the fault cause NONE and the illegal-transition count 0 (R149). -/
def faultCleared (s : State) : State :=
  changeMode .standby
    { s with mc := { s.mc with cause := .none }, pos := { s.pos with illegal := 0 } }

/-- START's conditions in order (R136). -/
def startBlockers (s : State) : Option NotReady :=
  let nodes := (s.banks.toList.filter fun u => u.desc.kind ≠ .disabled).map fun u => u.desc.node
  if !s.linked .u then some .uplink
  else if !s.linked .d then some .downlink
  else if nodes.isEmpty then some .noBank
  else if ¬ nodes.Nodup then some .nodeClash
  else none

/-- What a START does as it executes, with its answer (R136). -/
def doStart (s : State) : State × Answer :=
  if s.mc.mode ≠ .standby then (s, .refuse .mode)
  else match startBlockers s with
    | some c => (s, .notReady c)
    | none => (changeMode .run s, .done)

/-- What a STOP does as it executes, with its answer (R138, R142). -/
def doStop (s : State) : State × Answer :=
  match s.mc.mode with
  | .run =>
    let s1 := { s with mc := { s.mc with drainStart := s.pos.tp } }
    if s.track.isEmpty then (raise [.drained] (changeMode .standby s1), .done)
    else (changeMode .drain s1, .done)
  | .drain => (abandonDrain s, .done)
  | _ => (s, .refuse .mode)

/-- What a CLEAR FAULT does as it executes with STOPn at the level given (R149). -/
def doClearFault (stop : StopLevel) (s : State) : State × Answer :=
  if s.mc.mode ≠ .fault then (s, .refuse .mode)
  else if stop = .asserted then (s, .notReady .stopAsserted)
  else (faultCleared s, .done)

/-! ## The commands -/

/-- EMERGENCY_STOP: STOPn changes from deasserted to asserted (R146). -/
def execEmergencyStop : State → Answered := whenRunning fun s => takeEmergencyStop { s with stopn := .asserted }

/-- ENCODER_FAULT: an encoder fault report of the Position Unit (R147). -/
def execEncoderFault : State → Answered :=
  whenRunning fun s =>
    if s.handed.encoder = 0 then s
    else
      let s1 := { s with handed := { s.handed with encoder := s.handed.encoder - 1 } }
      if s.mc.mode = .fault then raise [.encoder] s1 else raise [.encoder, .fault] (faultEntry .encoder s1)

/-- BELT_REVERSAL: a reversal report of the Position Unit (R147). -/
def execBeltReversal : State → Answered :=
  whenRunning fun s =>
    if s.handed.reversal = 0 then s
    else
      let s1 := { s with handed := { s.handed with reversal := s.handed.reversal - 1 } }
      if s.mc.mode.firing then raise [.fault] (faultEntry .reverse s1) else s1

/-- The advance of TP since the drain began has reached drain_limit (R141). -/
def drainExpired (s : State) : Bool :=
  decide (s.mc.mode = .drain) && decide ((s.mgmt.line.drainLimit : Int) ≤ sdiff s.pos.tp s.mc.drainStart)

/-- DRAIN_TIMEOUT (R141; log 20). -/
def execDrainTimeout : State → Answered :=
  whenRunning fun s => if drainExpired s then raise [.drainTimeout] (abandonDrain s) else s

/-- TRACK_EMPTY_REPORT: a report of the Item Track (R140). -/
def execTrackEmptyReport : State → Answered :=
  whenRunning fun s =>
    if s.handed.trackEmpty = 0 then s
    else
      let s1 := { s with handed := { s.handed with trackEmpty := s.handed.trackEmpty - 1 } }
      if s.mc.mode = .drain ∧ s.track.isEmpty then raise [.drained] (changeMode .standby s1) else s1

/-- BLIND_SPAN_BEGIN: Port U's report that it left LINKED (R144). -/
def execBlindSpanBegin : State → Answered :=
  whenRunning fun s =>
    match s.handed.portUMode with
    | .link .left :: rest =>
      let s1 := { s with handed := { s.handed with portUMode := rest } }
      if s.mc.mode = .run then
        raise [.blind] { s1 with mc := { s1.mc with blindStart := some s.pos.tp, blindEnd := none } }
      else s1
    | _ => s

/-- BLIND_SPAN_END: Port U's report that it became LINKED (R145). -/
def execBlindSpanEnd : State → Answered :=
  whenRunning fun s =>
    match s.handed.portUMode with
    | .link .became :: rest =>
      let s1 := { s with handed := { s.handed with portUMode := rest } }
      if s.mc.blindStart.isSome ∧ s.mc.blindEnd.isNone then
        { s1 with mc := { s1.mc with blindEnd := some s.pos.tp } }
      else s1
    | _ => s

/-- A report of expiry, taken: in TEST the line enters STANDBY (R151). -/
def endTest (s : State) : State := if s.mc.mode = .test then changeMode .standby s else s

/-- PROVING_EXPIRY_REPORT: a port's report that a proving run on it expired (R151), Port U's in its turn among Port U's
reports (R144). With a report of each port ready the model takes Port U's, which has the same effect (log 3). -/
def execProvingExpiryReport : State → Answered :=
  whenRunning fun s =>
    match s.handed.portUMode with
    | .expiry :: rest => endTest { s with handed := { s.handed with portUMode := rest } }
    | _ =>
      if s.handed.portDExpiry = 0 then s
      else endTest { s with handed := { s.handed with portDExpiry := s.handed.portDExpiry - 1 } }

end Sys2Proof.Machine
end

