-- ==== Sys2Proof/Machine/Belt.lean ====
section
/-! DEFINITION. The Position Unit's events, and the release and assertion of RESETn (spec 01, R134). -/

namespace Sys2Proof.Machine

/-- What a sample that differs from the stored pair is (R1, R2). -/
inductive Transition where
  | forward | reverse | illegal
  deriving DecidableEq, Repr

/-- The pair that a forward transition leads to (table of R1). -/
def encForward (p : EncPair) : EncPair := ⟨!p.b, p.a⟩

/-- The pair that a reverse transition leads to (table of R1). -/
def encReverse (p : EncPair) : EncPair := ⟨p.b, !p.a⟩

/-- The pair that an illegal transition leads to: both channels change (table of R1). -/
def encIllegal (p : EncPair) : EncPair := ⟨!p.a, !p.b⟩

/-- A sample decoded against the stored pair; an equal sample decodes to nothing (R1). -/
def decodeSample (stored sample : EncPair) : Option Transition :=
  if sample = stored then none
  else if sample = encForward stored then some .forward
  else if sample = encReverse stored then some .reverse
  else some .illegal

/-- The counts-per-slot figure C (R9). -/
def countsPerSlot (slotUs w : Nat) : Nat := (slotUs * w + 8000) / 16000

/-- W: the sum of the sixteen history entries, saturating at 65,535 (R7). -/
def speedOf (history : Vector Nat 16) : Nat := min history.toList.sum 65535

/-- The history after a bin close, newest first (R7). -/
def pushBin (bin : Nat) (history : Vector Nat 16) : Vector Nat 16 :=
  Vector.ofFn fun i : Fin 16 => if h : i.val = 0 then bin else history[i.val - 1]

/-- The stall state set at a bin close (R8). -/
def stallOf (w stallW : Nat) : StallState := if w < stallW then .stalled else .moving

/-- The Position Unit after a bin close (R7, R8, R9). -/
def closeBin (line : LineEntry) (p : PositionUnit) : PositionUnit :=
  let history := pushBin p.bin p.history
  let w := speedOf history
  { p with bin := 0, history := history, w := w, stall := stallOf w line.stallW, c := countsPerSlot line.slotUs w }

/-- The reversal depth: TP - E modulo 2^32 (R5). -/
def reversalDepth (p : PositionUnit) : Nat := (p.tp - p.e).toNat

/-- A TP that is a multiple of seg_len crosses a segment boundary (R114). -/
def crosses (tp : Pos) (segLen : Nat) : Bool := decide (tp.toNat % segLen = 0)

/-- A forward transition: E up by one, TP and the current bin with it when E passes TP; an advance of TP to a multiple of
seg_len is handed to the Station Controller (R1, R3, R4, R6, R114). -/
def forwardStep (s : State) : State :=
  let e := s.pos.e + 1
  let p := { s.pos with stored := encForward s.pos.stored, e := e }
  if e = s.pos.tp + 1 then
    let s1 := { s with pos := { p with tp := e, bin := min (s.pos.bin + 1) 65535 } }
    if crosses e s.mgmt.line.segLen then { s1 with handed := { s1.handed with ring := s1.handed.ring + 1 } } else s1
  else { s with pos := p }

/-- A reverse transition: E down by one; a depth beyond reverse_limit is reported and raises BELT_REVERSE (R1, R3, R5). -/
def reverseStep (s : State) : State :=
  let p := { s.pos with stored := encReverse s.pos.stored, e := s.pos.e - 1 }
  let s1 := { s with pos := p }
  if s.mgmt.line.reverseLimit < reversalDepth p then
    raise [.beltReverse] { s1 with handed := { s1.handed with reversal := s1.handed.reversal + 1 } }
  else s1

/-- An illegal transition: the count up by one, saturating at 255, and reported at enc_fault_limit or above (R1, R2). -/
def illegalStep (s : State) : State :=
  let n := min (s.pos.illegal + 1) 255
  let s1 := { s with pos := { s.pos with stored := encIllegal s.pos.stored, illegal := n } }
  if s.mgmt.line.encFaultLimit ≤ n then { s1 with handed := { s1.handed with encoder := s1.handed.encoder + 1 } } else s1

/-! ## The commands -/

/-- POWER_ON: every block in its power-on state; an asserted STOPn is taken as an emergency stop at once (R134). The one
command that acts while RESETn is asserted. -/
def execPowerOn (straps : BitVec 4) (enc : EncPair) (stop : StopLevel) (s : State) : Answered :=
  .next (readStop stop (.powerOn straps enc stop s.pending))

/-- RESETN_ASSERTED: the time base stops and the part is held in reset with ALERT released (R10, R182; log 10). -/
def execResetnAsserted (s : State) : Answered :=
  .next { s with inReset := true, mgmt := { s.mgmt with alert := false } }

/-- FORWARD_COUNT (R4). -/
def execForwardCount : State → Answered := whenRunning forwardStep

/-- REVERSE_COUNT (R5). -/
def execReverseCount : State → Answered := whenRunning reverseStep

/-- ILLEGAL_TRANSITION (R2). -/
def execIllegalTransition : State → Answered := whenRunning illegalStep

/-- BIN_CLOSE; MOVING to STALLED in RUN raises BELT_STALL (R7, R8). -/
def execBinClose : State → Answered :=
  whenRunning fun s =>
    let s1 := { s with pos := closeBin s.mgmt.line s.pos }
    if s.pos.stall = .moving ∧ s1.pos.stall = .stalled ∧ s.mc.mode = .run then raise [.beltStall] s1 else s1

end Sys2Proof.Machine
end

