-- ==== Sys2Proof/Machine/Planner.lean ====
section
/-! DEFINITION. The Window Planner (sections 4.3 to 4.7) and the order of a window list (section 4.9). -/

namespace Sys2Proof.Machine

/-- The actuator lane of a sensor lane, floor taken toward minus infinity (R66). -/
def actLane (d : BankEntry) (s : Nat) : Int := ((s : Int) - (d.laneBase : Int)).fdiv (d.sensorsPerLane : Int)

/-- The bank cannot cover the piece (R66). -/
def uncovered (d : BankEntry) (laneLo laneHi : Nat) : Bool :=
  laneHi < d.laneBase || ((d.lanes : Int) - 1 < actLane d laneLo)

/-- A lane number clamped into 0 to lanes - 1 (R67). -/
def clampLane (d : BankEntry) (x : Int) : Nat := (max 0 (min x ((d.lanes : Int) - 1))).toNat

/-- act_lo (R67). -/
def actLo (d : BankEntry) (laneLo : Nat) : Nat := clampLane d (actLane d (max laneLo d.laneBase) - (d.spread : Int))

/-- act_hi (R67). -/
def actHi (d : BankEntry) (laneHi : Nat) : Nat := clampLane d (actLane d laneHi + (d.spread : Int))

/-- The lead in counts L (R68). -/
def leadCounts (d : BankEntry) (w : Nat) : Nat := (d.leadUs * w + 8000) / 16000

/-- open_pos (R69). -/
def openPosition (d : BankEntry) (w : Nat) (lead : Pos) : Pos :=
  lead + BitVec.ofNat 32 d.reach - BitVec.ofNat 32 (leadCounts d w) - BitVec.ofNat 32 d.pre

/-- close_pos (R69). -/
def closePosition (d : BankEntry) (w : Nat) (trail : Pos) : Pos :=
  trail + BitVec.ofNat 32 d.reach - BitVec.ofNat 32 (leadCounts d w) + BitVec.ofNat 32 d.post

/-- A timely window before it has an item id: its lanes, positions and TRIMMED flag (R67, R69, R73). -/
structure Planned where
  lo : Nat
  hi : Nat
  openPos : Pos
  closePos : Pos
  trimmed : Bool
  deriving DecidableEq, Repr

/-- A bank's planning verdict (R27). -/
inductive Plan where
  | none
  | uncovered
  | late
  | dropped
  | listed (kind : WindowKind) (p : Planned)
  deriving DecidableEq, Repr

/-- The kind of window an action asks for (R47, R75). -/
def Action.window : Action → Option WindowKind
  | .none => .none
  | .eject => some .eject
  | .protect => some .protect

/-- The Window Planner's tests, in order: action and kind, lane map, late check, list capacity (R27, R65 to R74). `tp`, `w`
and `c` are the Position Unit's values and `len` the list length at the record's event. -/
def plan (d : BankEntry) (act : Action) (laneLo laneHi : Nat) (lead trail tp : Pos) (w c len : Nat) : Plan :=
  if d.kind = .disabled then .none
  else match act.window with
    | none => .none
    | some kind =>
      if uncovered d laneLo laneHi then .uncovered
      else
        let openPos := openPosition d w lead
        let closePos := closePosition d w trail
        let ref := ahead tp c
        if sdiff closePos ref ≤ 0 then .late
        else if Config.listCapacity ≤ len then .dropped
        else .listed kind ⟨actLo d laneLo, actHi d laneHi, openPos, closePos, decide (sdiff openPos ref < 0)⟩

/-- The record of a LISTED window as it enters its list (R75). -/
def newWindow (item : BitVec 16) (kind : WindowKind) (priority : Nat) (p : Planned) : Window where
  item := item
  kind := kind
  lo := p.lo
  hi := p.hi
  openPos := p.openPos
  closePos := p.closePos
  priority := priority
  state := .waiting
  trimmed := p.trimmed
  due := 0
  full := 0
  any := 0
  protectDenied := false
  truncated := 0

/-- Insertion after every window whose open_pos is not ahead of the new one's, before every one whose open_pos is ahead
(R77). -/
def insertWindow (w : Window) : List Window → List Window
  | [] => [w]
  | x :: xs => if 0 < sdiff x.openPos w.openPos then w :: x :: xs else x :: insertWindow w xs

end Sys2Proof.Machine
end

