-- ==== Sys2Proof/Machine/Intake.lean ====
section
/-! DEFINITION. The Detection Intake, the Classifier and the Item Track (spec 02, 03). -/

namespace Sys2Proof.Machine

/-! ## Classification -/

/-- A rule matches a record's class, area, confidence and settled centroid (R42). -/
def Rule.matches (r : Rule) (cls : BitVec 16) (area confidence centroid : Nat) : Bool :=
  r.enabled && decide (cls &&& r.classMask = r.classValue) && decide (r.areaMin ≤ area) && decide (area ≤ r.areaMax)
    && decide (r.confMin ≤ confidence) && decide (r.zoneLo ≤ centroid) && decide (centroid ≤ r.zoneHi)

/-- The winning rule: set, index 0 to 47 or 48 for the default rule, and what it hands on (R43). -/
structure Winner where
  set : Fin 2
  index : Fin 49
  result : RuleResult
  deriving DecidableEq, Repr

/-- The first rule of a list that matches, with its place counted from `i` (R43). -/
def firstMatch (cls : BitVec 16) (area confidence centroid : Nat) : Nat → List Rule → Option (Nat × RuleResult)
  | _, [] => none
  | i, r :: rs =>
    if r.matches cls area confidence centroid then some (i, r.result)
    else firstMatch cls area confidence centroid (i + 1) rs

/-- The first matching rule of the active set in index order, or its default rule (R43). -/
def Classifier.winner (c : Classifier) (cls : BitVec 16) (area confidence centroid : Nat) : Winner :=
  match firstMatch cls area confidence centroid 0 c.sets[c.active].rules.toList with
  | some (i, r) => ⟨c.active, if h : i < 49 then ⟨i, h⟩ else 48, r⟩
  | none => ⟨c.active, 48, c.sets[c.active].dflt⟩

/-- One more in the winning rule's tally (R43, R45). -/
def Classifier.tally (c : Classifier) (w : Winner) : Classifier :=
  { c with tallies := c.tallies.set w.set (c.tallies[w.set].set w.index (satInc c.tallies[w.set][w.index])) }

/-! ## The Item Track -/

/-- An id that no item of the track holds. -/
def idFree (items : List Item) (id : BitVec 16) : Bool := items.all fun i => i.id ≠ id

/-- The next-id value, or the first value after it that no item in the track holds, trying at most `n` further values; a
track of `n` items always leaves one free (R30). -/
def freeId (items : List Item) : Nat → BitVec 16 → BitVec 16
  | 0, id => id
  | n + 1, id => if idFree items id then id else freeId items n (id + 1)

/-- An item's pending-bank set without a bank (R32). -/
def Item.without (i : Item) (b : BankIx) : Item := { i with pendingBanks := i.pendingBanks &&& ~~~BitVec.twoPow 4 b.val }

/-- The track after a retirement report: the bank leaves the item's pending set, and an item whose set becomes empty
leaves (R32). A report that names no item, or a bank its set does not hold, changes nothing. -/
def retireItem (id : BitVec 16) (b : BankIx) (items : List Item) : List Item :=
  items.filterMap fun i =>
    if i.id = id ∧ i.pendingBanks.getLsbD b.val then
      if (i.without b).pendingBanks = 0 then none else some (i.without b)
    else some i

/-! ## Verdicts -/

/-- The reasons a record is refused (section 2.2). -/
inductive Refused where
  | mode | malformed | stale | skew | overflow
  deriving DecidableEq, Repr

/-- One more in the counter of a refusal (R19, R37). -/
def IntakeCounters.countRefused (c : IntakeCounters) : Refused → IntakeCounters
  | .mode => { c with refusedMode := satInc c.refusedMode }
  | .malformed => { c with refusedMalformed := satInc c.refusedMalformed }
  | .stale => { c with refusedStale := satInc c.refusedStale }
  | .skew => { c with refusedSkew := satInc c.refusedSkew }
  | .overflow => { c with refusedOverflow := satInc c.refusedOverflow }

/-- Replace the intake counters. -/
def State.setIntakeCounters (s : State) (c : IntakeCounters) : State := { s with intake := { s.intake with counters := c } }

/-- A refusal: counted, DETECT_REFUSED raised, and TRACK_FULL as well for OVERFLOW (R19, R28). -/
def refuse (why : Refused) (s : State) : State :=
  raise (if why = .overflow then [.trackFull, .detectRefused] else [.detectRefused])
    (s.setIntakeCounters (s.intake.counters.countRefused why))

/-- The impossible lane ranges and edge orders (R21). -/
def Detection.malformed (r : Detection) : Bool :=
  decide (r.laneHi < r.laneLo) || decide (Config.lastSensorLane < r.laneLo) || decide (sdiff r.trailPos r.leadPos < 0)

/-- lane_hi clamped to the sensor line (R22). -/
def Detection.clampedHi (r : Detection) : Nat := min r.laneHi Config.lastSensorLane

/-- The settled centroid (R22). -/
def Detection.settledCentroid (r : Detection) : Nat :=
  match r.centroid with
  | some c => clamp c r.laneLo r.clampedHi
  | none => (r.laneLo + r.clampedHi) / 2

/-- The piece is longer than max_item_len (R23). -/
def Detection.tooLong (r : Detection) (maxLen : Nat) : Bool := decide ((maxLen : Int) < sdiff r.trailPos r.leadPos)

/-- trail_pos after the length clip (R23). -/
def Detection.clippedTrail (r : Detection) (maxLen : Nat) : Pos :=
  if r.tooLong maxLen then ahead r.leadPos maxLen else r.trailPos

/-- The counters of a record's clamp and clip (R22, R23, R37). -/
def countAlterations (r : Detection) (maxLen : Nat) (c : IntakeCounters) : IntakeCounters :=
  { c with
    laneClamped := if Config.lastSensorLane < r.laneHi then satInc c.laneClamped else c.laneClamped
    clipped := if r.tooLong maxLen then satInc c.clipped else c.clipped }

/-! ## Planning and entry -/

/-- The planning verdict of one bank for a record and its winning rule (R27, R65). -/
def planBank (s : State) (r : Detection) (w : Winner) (b : BankIx) : Plan :=
  plan (s.bank b).desc w.result.actions[b] r.laneLo r.clampedHi r.leadPos (r.clippedTrail s.mgmt.line.maxItemLen)
    s.pos.tp s.pos.w s.pos.c (s.bank b).windows.length

/-- A LISTED verdict. -/
def Plan.isListed : Plan → Bool
  | .listed _ _ => true
  | _ => false

/-- What the ninth step counts and enters at one bank (R28, R75, R80). -/
def settleBank (id : BitVec 16) (priority : Nat) (p : Plan) (u : BankUnit) : BankUnit :=
  match p with
  | .none => u
  | .uncovered => { u with counters := { u.counters with uncovered := satInc u.counters.uncovered } }
  | .late =>
    { u with counters := { u.counters with created := satInc u.counters.created, late := satInc u.counters.late } }
  | .dropped =>
    { u with counters := { u.counters with created := satInc u.counters.created, dropped := satInc u.counters.dropped } }
  | .listed kind w =>
    { u with
      windows := insertWindow (newWindow id kind priority w) u.windows
      counters := { u.counters with created := satInc u.counters.created } }

/-- The planning verdicts settled at every bank (R28). -/
def settleBanks (id : BitVec 16) (priority : Nat) (plans : BankIx → Plan) (s : State) : State :=
  { s with banks := Vector.ofFn fun b : Fin 4 => settleBank id priority (plans b) s.banks[b] }

/-- The set of banks with a LISTED verdict (R31). -/
def listedBanks (plans : BankIx → Plan) : BitVec 4 :=
  BankIx.all.foldl (fun v b => if (plans b).isListed then v ||| BitVec.twoPow 4 b.val else v) 0

/-- The item a record enters as (R31). -/
def newItem (s : State) (r : Detection) (w : Winner) (id : BitVec 16) (banks : BitVec 4) : Item where
  id := id
  entryPos := s.pos.tp
  laneLo := r.laneLo
  laneHi := r.clampedHi
  centroid := r.settledCentroid
  centroidSent := r.centroid.isSome
  leadPos := r.leadPos
  trailPos := r.clippedTrail s.mgmt.line.maxItemLen
  cls := r.cls
  area := r.area
  confidence := r.confidence
  tag := r.tag
  touching := r.touching
  atEdge := r.atEdge
  clipped := r.tooLong s.mgmt.line.maxItemLen
  recipeSet := w.set
  rule := w.index.val
  pendingBanks := banks

/-- WINDOW_DROP when some bank's verdict is DROPPED (R28, R74). -/
def dropFlags (plans : BankIx → Plan) : List EventFlag :=
  if BankIx.all.any fun b => plans b = .dropped then [.windowDrop] else []

/-- The record enters the track: an item id, the item, its windows (R28 to R31). -/
def enterItem (r : Detection) (w : Winner) (plans : BankIx → Plan) (s : State) : State :=
  let id := freeId s.track s.track.length s.intake.nextId
  let s1 := settleBanks id w.result.priority plans s
  let s2 := { s1 with
    track := s.track ++ [newItem s r w id (listedBanks plans)]
    intake := { s.intake with
      nextId := id + 1
      counters := { s.intake.counters with entered := satInc s.intake.counters.entered } } }
  raise (dropFlags plans) (reportOccupancy s2)

/-- The record passes: counted at its banks, not in the track (R28). -/
def passRecord (w : Winner) (plans : BankIx → Plan) (s : State) : State :=
  let s1 := settleBanks s.intake.nextId w.result.priority plans s
  raise (dropFlags plans)
    (s1.setIntakeCounters { s.intake.counters with passed := satInc s.intake.counters.passed })

/-- The ninth step: OVERFLOW, entry or pass (R28). -/
def settleRecord (r : Detection) (w : Winner) (plans : BankIx → Plan) (s : State) : State :=
  if BankIx.all.any fun b => (plans b).isListed then
    if Config.trackCapacity ≤ s.track.length then refuse .overflow s else enterItem r w plans s
  else passRecord w plans s

/-- The seventh step: the tally of the winning rule and the burden contribution handed on (R26, R45, R49). -/
def classify (r : Detection) (w : Winner) (s : State) : State :=
  { s with
    cls := s.cls.tally w
    handed := { s.handed with burden := s.handed.burden ++ [r.area * w.result.burdenWeight] } }

/-- The winning rule for a record (R26, R43). -/
def winnerOf (r : Detection) (s : State) : Winner := s.cls.winner r.cls r.area r.confidence r.settledCentroid

/-- One record judged, classified, planned and entered or refused as a whole: the steps of R20 to R28 in order (R19). -/
def takeRecord (r : Detection) (s : State) : State :=
  let maxLen := s.mgmt.line.maxItemLen
  let s1 := s.setIntakeCounters { s.intake.counters with records := satInc s.intake.counters.records }
  if s.mc.mode ≠ .run then refuse .mode s1
  else if r.malformed then refuse .malformed s1
  else
    let s2 := s1.setIntakeCounters (countAlterations r maxLen s1.intake.counters)
    if (s.mgmt.line.staleLimit : Int) < sdiff s.pos.tp (r.clippedTrail maxLen) then refuse .stale s2
    else if (s.mgmt.line.skewLimit : Int) < sdiff (r.clippedTrail maxLen) s.pos.tp then refuse .skew s2
    else settleRecord r (winnerOf r s) (planBank s r (winnerOf r s)) (classify r (winnerOf r s) s2)

/-- The next record of the oldest held frame, and the frames held once it is taken: a frame whose records are all taken is
held no more (R17). -/
def nextRecord : List (List Detection) → Option (Detection × List (List Detection))
  | [] => none
  | [] :: frames => nextRecord frames
  | [r] :: frames => some (r, frames)
  | (r :: rs) :: frames => some (r, rs :: frames)

/-! ## The commands -/

/-- DETECT_FRAME: the oldest DETECT frame Port U handed on is held and counted, or dropped when 4 are held (R17). -/
def execDetectFrame : State → Answered :=
  whenRunning fun s =>
    match s.handed.detects with
    | [] => s
    | f :: rest =>
      let s1 := { s with handed := { s.handed with detects := rest } }
      if s.intake.held.length < Config.intakeCapacity then
        { s1 with intake := { s.intake with
            held := s.intake.held ++ [f]
            counters := { s.intake.counters with frames := satInc s.intake.counters.frames } } }
      else
        raise [.detectRefused]
          (s1.setIntakeCounters { s.intake.counters with framesDropped := satInc s.intake.counters.framesDropped })

/-- DETECT_RECORD: the next record of the oldest held frame (R17, R19). -/
def execDetectRecord : State → Answered :=
  whenRunning fun s =>
    match nextRecord s.intake.held with
    | none => s
    | some (r, held) => takeRecord r { s with intake := { s.intake with held := held } }

/-- RETIREMENT_REPORT: the oldest report of a bank; a track that becomes empty is reported to the Mode Controller, and a
changed count to the Station Controller (R32, R35, R140). -/
def execRetirementReport (b : BankIx) : State → Answered :=
  whenRunning fun s =>
    match (s.bankHanded b).retired with
    | [] => s
    | id :: rest =>
      let s1 := s.setBankHanded b { s.bankHanded b with retired := rest }
      let items := retireItem id b s.track
      let s2 := { s1 with track := items }
      if items.length = s.track.length then s2
      else
        let s3 := reportOccupancy s2
        if items.isEmpty then { s3 with handed := { s3.handed with trackEmpty := s3.handed.trackEmpty + 1 } } else s3

end Sys2Proof.Machine
end

