-- ==== Sys2Proof/Machine/Links.lean ====
section
/-! DEFINITION. Ports U and D: states, lane quality, frames in and out, link proving (spec 08). -/

namespace Sys2Proof.Machine

/-! ## Changes of port state -/

/-- A relayed frame. -/
def TxFrame.isRelayed : TxFrame → Bool
  | .relayed _ => true
  | _ => false

/-- The OK answer of a SOFT RESET not yet performed (R179). -/
def TxFrame.isResetAnswer : TxFrame → Bool
  | .resetAnswer _ => true
  | _ => false

/-- A SOFT RESET that waits for its answer becomes due (R179). -/
def resetDue (s : State) : State :=
  if s.mgmt.softReset = .waiting then { s with mgmt := { s.mgmt with softReset := .due none } } else s

/-- The frame that Port U is sending as it leaves LINKED is cut off: a relayed one counts as an upstream relay drop, an
answer or notice as a return drop (R156). -/
def cutReturn (s : State) : State :=
  match s.portU.tx with
  | none => s
  | some f =>
    if f.isRelayed then
      { s with portU := { s.portU with tx := none, relayDrops := satInc s.portU.relayDrops } }
    else { s with portU := { s.portU with tx := none, returnDrops := satInc s.portU.returnDrops } }

/-- The frame that Port D is sending as it leaves LINKED is cut off: a relayed one counts as a downstream relay drop;
waiting FIRE and DRIVE frames are discarded uncounted (R156). -/
def cutForward (s : State) : State :=
  { s with portD := { s.portD with
      tx := none
      fire := Vector.replicate 4 none
      drive := []
      relayDrops := if (s.portD.tx.map TxFrame.isRelayed).getD false then satInc s.portD.relayDrops else s.portD.relayDrops } }

/-- Port U's reports of a change into or out of LINKED: to the Mode Controller and the Station Controller (R156). -/
def reportU (r : LinkReport) (s : State) : State :=
  { s with handed := { s.handed with
      portUMode := s.handed.portUMode ++ [.link r]
      portUStation := s.handed.portUStation ++ [r] } }

/-- Port D's report of a change into or out of LINKED: to the Station Controller (R156). -/
def reportD (r : LinkReport) (s : State) : State :=
  { s with handed := { s.handed with portDStation := s.handed.portDStation ++ [r] } }

/-- A port's report to the Mode Controller that a proving run on it expired (R169). -/
def reportExpiry (p : PortId) (s : State) : State :=
  match p with
  | .u => { s with handed := { s.handed with portUMode := s.handed.portUMode ++ [.expiry] } }
  | .d => { s with handed := { s.handed with portDExpiry := s.handed.portDExpiry + 1 } }

/-- The flags that a change out of LINKED raises: DOWNLINK_LOST at Port D, RELAY_DROP when a relayed frame was cut off
(R156). -/
def leaveFlags (p : PortId) (s : State) : List EventFlag :=
  match p with
  | .u => if (s.portU.tx.map TxFrame.isRelayed).getD false then [.relayDrop] else []
  | .d => .downlinkLost :: if (s.portD.tx.map TxFrame.isRelayed).getD false then [.relayDrop] else []

/-- What leaving LINKED does besides the state itself and its flags: the frame cut off, the report, a waiting SOFT RESET
due (R156, R179). -/
def leaveEffects (p : PortId) (s : State) : State :=
  match p with
  | .u => resetDue (reportU .left (cutReturn s))
  | .d => reportD .left (cutForward s)

/-- The receiver's lock survives a change into LINKED and into PROVING, and is lost at a change into DOWN or TRAINING
(R154, R155). -/
def Link.enter (l : Link) (st : PortState) : Link :=
  match st with
  | .down => { l with state := .down, locked := false, warning := false }
  | .training => { l with state := .training, locked := false, warning := false }
  | .linked => { l with state := .linked, lossRun := 0 }
  | .proving => { l with state := .proving, warning := false }

/-- A LINKED port leaves for TRAINING or DOWN: a retrain (R155), the reports and discards of R156. -/
def dropLink (p : PortId) (st : PortState) (s : State) : State :=
  let l := s.link p
  leaveEffects p (s.setLink p { (l.enter st) with retrains := satInc l.retrains })

/-- A port becomes LINKED and reports it (R155, R156); the frames its queue kept are sent (R162, R164). -/
def becomeLinked (p : PortId) (s : State) : State :=
  let s1 := s.setLink p ((s.link p).enter .linked)
  match p with
  | .u => offerReturn (reportU .became s1)
  | .d => offerForward (reportD .became s1)

/-- The run in progress owns the receive lane of a port: a CHECK run on it (R165). -/
def checkOwns (s : State) (p : PortId) : Bool :=
  match s.proving.run with
  | some r => decide (r.port = p) && decide (r.role = .check)
  | none => false

/-- The run in progress owns the transmit lane of a port: a GENERATE run on it (R165). -/
def generateOwns (s : State) (p : PortId) : Bool :=
  match s.proving.run with
  | some r => decide (r.port = p) && decide (r.role = .generate)
  | none => false

/-- A port takes frames from its receive lane: LINKED, or PROVING with its receiver locked and the lane not owned by the
run (R160). -/
def takesFrames (s : State) (p : PortId) : Bool :=
  match (s.link p).state with
  | .linked => true
  | .proving => !checkOwns s p && (s.link p).locked
  | .down => false
  | .training => false

/-! ## What the transmit lanes carry -/

/-- The content of a transmit lane (R154). -/
inductive LaneContent where
  | trainingFill (ready : Bool)
  | fill (ready : Bool)
  | frame (bytes : List Byte)
  | pattern (reg : BitVec 15)
  deriving DecidableEq, Repr

/-- The frame on a port's transmit lane. -/
def State.tx (s : State) : PortId → Option TxFrame
  | .u => s.portU.tx
  | .d => s.portD.tx

/-- What a port's transmit lane carries (R154): training fill with the own lock as ready mark in DOWN and TRAINING; the
frame being sent, or fill with the mark on, in LINKED; the pattern of a run that owns the lane, or fill with the mark off
and no frame, in PROVING. -/
def txLane (p : PortId) (s : State) : LaneContent :=
  match (s.link p).state with
  | .down => .trainingFill (s.link p).locked
  | .training => .trainingFill (s.link p).locked
  | .linked => match s.tx p with
    | some f => .frame (f.wire s.nodeAddr)
    | none => .fill true
  | .proving => match s.proving.run with
    | some ⟨q, .generate, .generator reg⟩ => if q = p then .pattern reg else .fill false
    | _ => .fill false

/-! ## Frames in -/

/-- A bad frame adds one to the port's counter (R160). -/
def countBad (p : PortId) (s : State) : State :=
  s.setLink p { s.link p with badFrames := satInc (s.link p).badFrames }

/-- A frame of the part of a kind its port does not hand on (R161). -/
def countMisdirected (p : PortId) (s : State) : State :=
  s.setLink p { s.link p with misdirected := satInc (s.link p).misdirected }

/-- A frame for another node joins the relay queue of its direction, or is dropped with RELAY_DROP when the queue is full
(R162, R164). -/
def relayFrame (p : PortId) (bytes : List Byte) (s : State) : State :=
  match p with
  | .u =>
    if s.portD.relay.length < Config.relayCapacity then
      offerForward { s with portD := { s.portD with relay := s.portD.relay ++ [bytes] } }
    else raise [.relayDrop] { s with portD := { s.portD with relayDrops := satInc s.portD.relayDrops } }
  | .d =>
    if s.portU.queue.length < Config.returnCapacity then
      offerReturn { s with portU := { s.portU with queue := s.portU.queue ++ [.relayed bytes] } }
    else raise [.relayDrop] { s with portU := { s.portU with relayDrops := satInc s.portU.relayDrops } }

/-- A bank in use names a node as its driver (R59, R100). -/
def BankUnit.servedBy (u : BankUnit) (node : NodeAddr) : Bool :=
  decide (u.desc.kind ≠ .disabled) && decide (BitVec.ofNat 6 u.desc.node = node)

/-- A STATUS frame goes to each bank in use that names its source, or is dropped and counted (R100, R161). -/
def routeStatus (src : NodeAddr) (payload : List Byte) (s : State) : State :=
  if s.banks.toList.any (·.servedBy src) then
    { s with handed := { s.handed with
        banks := Vector.ofFn fun b : Fin 4 =>
          if s.banks[b].servedBy src then
            { s.handed.banks[b] with status := s.handed.banks[b].status ++ [statusOf payload] }
          else s.handed.banks[b] } }
  else { s with portD := { s.portD with unknownSource := satInc s.portD.unknownSource } }

/-- A frame of the part is handed on by the port it arrived on, by kind (R161). -/
def handOn (p : PortId) (f : RxFrame) (s : State) : State :=
  match p, f.kind with
  | .u, .detect =>
    { s with handed := { s.handed with detects := s.handed.detects ++ [(detectRecords f.payload).getD []] } }
  | .u, .request => { s with handed := { s.handed with requests := s.handed.requests ++ [⟨f.src, f.payload⟩] } }
  | .d, .status => routeStatus f.src f.payload s
  | _, _ => countMisdirected p s

/-- A frame taken from a receive lane: bad, the part's, or relayed (R160, R161, R162, R191). -/
def takeFrame (p : PortId) (bytes : List Byte) (s : State) : State :=
  match parseFrame bytes with
  | none => countBad p s
  | some f =>
    if f.dest = s.nodeAddr then
      if f.kind = .status ∧ f.payload.length ≠ 3 then countBad p s else handOn p f s
    else relayFrame p bytes s

/-! ## Frames out -/

/-- The frame on Port U's return lane has been sent whole; a SOFT RESET that waits for it is due (R179). -/
def finishReturn (s : State) : State :=
  let s1 := { s with portU := { s.portU with tx := none } }
  if (s.portU.tx.map TxFrame.isResetAnswer).getD false then resetDue s1 else s1

/-! ## Link proving -/

/-- The feedback of a register: stage 15 exclusive-or stage 14 (R166). -/
def feedback (reg : BitVec 15) : Bool := reg.getLsbD 14 != reg.getLsbD 13

/-- A shift toward stage 15 with a bit entering stage 1 (R166). -/
def shiftIn (reg : BitVec 15) (bit : Bool) : BitVec 15 := (reg <<< 1) ||| (BitVec.ofBool bit).setWidth 15

/-- The generator's register after one bit, and the bit sent (R166). -/
def generatorStep (reg : BitVec 15) : BitVec 15 × Bool := (shiftIn reg (feedback reg), feedback reg)

/-- The first `n` bits a generator sends from a register (R166). -/
def generatorBits : Nat → BitVec 15 → List Bool
  | 0, _ => []
  | n + 1, reg => (generatorStep reg).2 :: generatorBits n (generatorStep reg).1

/-- A fresh seed: nothing loaded. -/
def Checker.fresh : Checker := .seeding 0 0

/-- A seed complete: prediction starts, unless the seed is all 0, which a lane with no transitions gives and which "never
synchronises" (R167; log 15). -/
def Checker.seeded (reg : BitVec 15) : Checker := if reg = 0 then .fresh else .matching reg 0

/-- One raw bit into a checker, and whether it is a mismatch (R167). -/
def Checker.step (bit : Bool) : Checker → Checker × Bool
  | .seeding reg n =>
    let reg1 := shiftIn reg bit
    (if n + 1 = 15 then .seeded reg1 else .seeding reg1 (n + 1), false)
  | .matching reg n =>
    if bit = feedback reg then
      (if n + 1 = 64 then .synced (shiftIn reg bit) else .matching (shiftIn reg bit) (n + 1), false)
    else (.fresh, false)
  | .synced reg => (.synced (shiftIn reg (feedback reg)), decide (bit ≠ feedback reg))

/-- Raw bits into a checker, with the number of mismatches (R167). -/
def Checker.feed : List Bool → Checker → Checker × Nat
  | [], c => (c, 0)
  | bit :: bits, c =>
    let (c1, bad) := c.step bit
    let (c2, n) := Checker.feed bits c1
    (c2, n + bad.toNat)

/-- A checker has synchronised (R167). -/
def Checker.isSynced : Checker → Bool
  | .synced _ => true
  | _ => false

/-- Mismatches counted in the result: the first latches error-seen, each adds one (R167). -/
def ProvingResult.addMismatches (r : ProvingResult) (n : Nat) : ProvingResult :=
  { r with mismatches := satAdd r.mismatches n, errorSeen := r.errorSeen || decide (0 < n) }

/-- The raw bits of a checked lane taken by the checker of the run in progress, when it is, or is not yet, synchronised as
asked (R167). -/
def feedChecker (wantSynced : Bool) (bits : List Bool) (s : State) : State :=
  match s.proving.run with
  | some ⟨port, role, .checker c⟩ =>
    if c.isSynced = wantSynced then
      let out := c.feed bits
      { s with proving :=
          { run := some ⟨port, role, .checker out.1⟩
            result := s.proving.result.map fun r => r.addMismatches out.2 } }
    else s
  | _ => s

/-- The final status of a run (R168). -/
def finalStatus (run : ProvingRun) (r : ProvingResult) : ProvingStatus :=
  match run.engine with
  | .generator _ => .generated
  | .checker c => if !c.isSynced then .noPattern else if r.errorSeen then .errors else .clean

/-- A port leaves PROVING for TRAINING, or for DOWN when its receive lane has had no transitions in the last 1 ms (R155,
R169). -/
def leaveProving (p : PortId) (s : State) : State :=
  s.setLink p ((s.link p).enter (if (s.link p).signal then .training else .down))

/-- The end of a proving run at its port (R169). -/
def endRun (s : State) : State :=
  match s.proving.run with
  | none => s
  | some run => { leaveProving run.port s with proving := { s.proving with run := none } }

/-- What a new run keeps: the generator starts with every stage at one (R166), the checker unseeded (R167). -/
def newEngine : ProvingRole → ProvingEngine
  | .generate => .generator (BitVec.allOnes 15)
  | .check => .checker .fresh

/-- A port enters PROVING; a CHECK run takes the receive lane and with it the lock (R154, R155). -/
def enterProving (role : ProvingRole) (l : Link) : Link :=
  let l1 := l.enter .proving
  if role = .check then { l1 with locked := false } else l1

/-- The run starts: the port in PROVING, reported if it was LINKED, a new RUNNING result (R156, R165, R168). -/
def startRun (p : PortId) (role : ProvingRole) (duration : Nat) (s : State) : State :=
  let s1 := s.setLink p (enterProving role (s.link p))
  let s2 := { s1 with proving := ⟨some ⟨p, role, newEngine role⟩, some ⟨p, role, duration, 0, false, .running⟩⟩ }
  if s.linked p then raise (leaveFlags p s) (leaveEffects p s2) else s2

/-- The port of a PROVE byte (R192). -/
def portOfCode : Nat → Option PortId
  | 0 => some .u
  | 1 => some .d
  | _ => none

/-- The role of a PROVE byte (R192). -/
def roleOfCode : Nat → Option ProvingRole
  | 0 => some .generate
  | 1 => some .check
  | _ => none

/-- What a PROVE does as it executes, with its answer: mode, then arguments, then a run in progress (R151, R165). -/
def doProve (port role duration : Nat) (s : State) : State × Answer :=
  if s.mc.mode ≠ .standby then (s, .refuse .mode)
  else match portOfCode port, roleOfCode role with
    | some p, some r =>
      if duration = 0 then (s, .refuse .range)
      else if s.proving.run.isSome then (s, .notReady .proving)
      else (changeMode .test (startRun p r duration s), .done)
    | _, _ => (s, .refuse .range)

/-! ## The commands -/

/-- FRAME_RECEIVED (R160 to R162). -/
def execFrameReceived (p : PortId) (bytes : List Byte) : State → Answered :=
  whenRunning fun s => if takesFrames s p then takeFrame p bytes s else s

/-- SIGNAL_DETECTED: transitions appear on the receive lane; a DOWN port goes to TRAINING (R155). -/
def execSignalDetected (p : PortId) : State → Answered :=
  whenRunning fun s =>
    let l := { s.link p with signal := true }
    s.setLink p (if l.state = .down then l.enter .training else l)

/-- RECEIVER_LOCKED: the receiver of a TRAINING port locks, or of a PROVING port whose run does not own the lane; a
TRAINING port whose partner is ready becomes LINKED (R154, R155). -/
def execReceiverLocked (p : PortId) : State → Answered :=
  whenRunning fun s =>
    let l := { s.link p with locked := true }
    match l.state with
    | .training => if l.partnerReady then becomeLinked p (s.setLink p l) else s.setLink p l
    | .proving => if checkOwns s p then s else s.setLink p l
    | .down => s
    | .linked => s

/-- PARTNER_READY_CHANGE: the mark carried in the fill the receiver takes; it links a TRAINING port whose receiver is
locked, and returns a LINKED port to TRAINING when it goes off (R154, R155; log 14). -/
def execPartnerReadyChange (p : PortId) (mark : Bool) : State → Answered :=
  whenRunning fun s =>
    let l := { s.link p with partnerReady := mark }
    match l.state with
    | .training => if mark && l.locked then becomeLinked p (s.setLink p l) else s.setLink p l
    | .linked => if mark then s.setLink p l else raise (leaveFlags p s) (dropLink p .training (s.setLink p l))
    | .proving => if checkOwns s p then s else s.setLink p l
    | .down => s

/-- SIGNAL_LOSS: 1 ms with no transitions; a port outside DOWN and PROVING goes to DOWN (R155). -/
def execSignalLoss (p : PortId) : State → Answered :=
  whenRunning fun s =>
    let l := { s.link p with signal := false }
    match l.state with
    | .linked => raise (leaveFlags p s) (dropLink p .down (s.setLink p l))
    | .training => s.setLink p (l.enter .down)
    | .down => s.setLink p l
    | .proving => s.setLink p l

/-- The loss run after a window close in LINKED (R157). -/
def nextLossRun (line : LineEntry) (l : Link) : Nat := if line.linkLoss ≤ l.windowErrors then l.lossRun + 1 else 0

/-- A window close in LINKED sets the warning from clear (R158). -/
def warns (line : LineEntry) (l : Link) : Bool := decide (line.linkWarnOn ≤ l.windowErrors) && !l.warning

/-- A link after a window close in LINKED, before any loss (R157, R158). -/
def closeWindow (line : LineEntry) (l : Link) : Link :=
  { l with
    windowErrors := 0
    lossRun := nextLossRun line l
    warning := if line.linkWarnOn ≤ l.windowErrors then true
      else if l.windowErrors ≤ line.linkWarnOff then false else l.warning
    warnings := if warns line l then satInc l.warnings else l.warnings }

/-- MONITOR_WINDOW_CLOSE: run, warning and loss in LINKED; in other states only the count is taken (R157 to R159). A close
that both sets the warning and declares loss raises LINK_WARN once the port has left LINKED: the model's choice (log 28). -/
def execMonitorWindowClose (p : PortId) : State → Answered :=
  whenRunning fun s =>
    let l := s.link p
    if l.state = .linked then
      let warn := if warns s.mgmt.line l then [EventFlag.linkWarn] else []
      let s1 := s.setLink p (closeWindow s.mgmt.line l)
      if nextLossRun s.mgmt.line l = Config.lossRunLimit then
        raise (warn ++ leaveFlags p s) (dropLink p .training s1)
      else raise warn s1
    else s.setLink p { l with windowErrors := 0 }

/-- CODE_ERROR: found by a locked receiver only; one inside a frame that the port is taking ends it as a bad frame (R157,
R160). -/
def execCodeError (p : PortId) (inFrame : Bool) : State → Answered :=
  whenRunning fun s =>
    let l := s.link p
    if l.locked then
      s.setLink p
        { l with
          windowErrors := min (l.windowErrors + 1) 65535
          codeErrors := satInc l.codeErrors
          badFrames := if inFrame && takesFrames s p then satInc l.badFrames else l.badFrames }
    else s

/-- PORT_D_FRAME_SENT: the lane is free, its frame sent; while Port D is LINKED the arbiter starts the next (R163). -/
def execPortDFrameSent : State → Answered :=
  whenRunning fun s => offerForward { s with portD := { s.portD with tx := none } }

/-- PORT_U_FRAME_SENT: the lane is free, its frame sent; while Port U is LINKED the next frame starts (R164, R179). -/
def execPortUFrameSent : State → Answered :=
  whenRunning fun s => offerReturn (finishReturn s)

/-- CHECKER_SYNC: raw bits taken by a checker that is not yet synchronised (R167). -/
def execCheckerSync (bits : List Bool) : State → Answered := whenRunning (feedChecker false bits)

/-- CHECKER_MISMATCH: raw bits taken by a synchronised checker (R167). -/
def execCheckerMismatch (bits : List Bool) : State → Answered := whenRunning (feedChecker true bits)

/-- PROVING_EXPIRY: the run stops, its result becomes final, its port leaves PROVING and reports the expiry (R168,
R169). -/
def execProvingExpiry : State → Answered :=
  whenRunning fun s =>
    match s.proving.run with
    | none => s
    | some run =>
      let s1 := endRun s
      reportExpiry run.port
        { s1 with
          proving := { s1.proving with result := s.proving.result.map fun r => { r with status := finalStatus run r } } }

end Sys2Proof.Machine
end

