-- ==== Sys2Proof/Machine/Stations.lean ====
section
/-! DEFINITION. The Station Controller: burden ring, bands, rotor, splitter, feeder (spec 06). -/

namespace Sys2Proof.Machine

/-- Some reason is in the set (R125). -/
def HoldSet.any (h : HoldSet) : Bool := h.mode || h.occupancy || h.blind || h.actuator || h.air || h.operator

/-- The feeder command of a hold-reason set (R125). -/
def HoldSet.command (h : HoldSet) : FeederCommand := if h.any then .hold else .release

/-- Replace the Station Controller. -/
def State.setStation (s : State) (st : Station) : State := { s with station := st }

/-- Replace the hold-reason set and settle the command from it, with no frame (R125, R129). -/
def Station.settle (st : Station) (h : HoldSet) : Station := { st with holds := h, command := h.command }

/-- Replace the hold-reason set; a change of the command issues one DRIVE feeder frame (R125). -/
def setHolds (h : HoldSet) (s : State) : State :=
  let s1 := s.setStation (s.station.settle h)
  if h.command = s.station.command then s1 else issueDrive .feeder s1

/-- The rotor target: the band's frequency in RUN and DRAIN, rot_idle otherwise, clamped to the rotor range (R121). -/
def Station.targetOf (st : Station) : Nat :=
  clamp (if st.mode.firing then st.bands[st.band].f else st.entry.rotIdle) st.entry.rotMin st.entry.rotMax

/-- The rotor target recomputed (R121). -/
def Station.retarget (st : Station) : Station := { st with target := st.targetOf }

/-- The splitter commanded to the position of the present band (R123). -/
def commandSplitter (s : State) : State :=
  issueDrive .splitter (s.setStation { s.station with splitter := s.station.bands[s.station.band].split })

/-- The sum of the eight segments (R113). -/
def ringSum (current : Nat) (closed : Vector Nat 7) : Nat := current + closed.toList.sum

/-- A contribution joins the current segment, saturating; B follows (R113). -/
def Station.contribute (st : Station) (n : Nat) : Station :=
  let current := min (st.current + n) Config.segmentMax
  { st with current := current, b := ringSum current st.closed }

/-- The ring advances: the oldest segment is dropped, the current one closed, a new one opened at 0, B recomputed
(R114). -/
def Station.advance (st : Station) : Station :=
  let closed := (Vector.ofFn fun i : Fin 7 => if h : i.val = 0 then st.current else st.closed[i.val - 1])
  { st with current := 0, closed := closed, b := ringSum 0 closed }

/-- The band judged against B: one step up, else one step down, else kept (R117). -/
def Station.judge (st : Station) : Fin 8 :=
  if h : st.band.val < 7 then
    if st.bands[st.band.val + 1].t ≤ st.b then ⟨st.band.val + 1, by omega⟩
    else if 0 < st.band.val ∧ st.b < st.bands[st.band].t - st.entry.h then ⟨st.band.val - 1, by omega⟩
    else st.band
  else if 0 < st.band.val ∧ st.b < st.bands[st.band].t - st.entry.h then ⟨st.band.val - 1, by omega⟩
  else st.band

/-- The rotor setpoint after a station tick (R122). -/
def Station.slewed (st : Station) : Nat :=
  if st.setpoint ≤ st.target then
    if st.target - st.setpoint ≤ st.entry.slew then st.target else st.setpoint + st.entry.slew
  else if st.setpoint - st.target ≤ st.entry.slew then st.target
  else st.setpoint - st.entry.slew

/-- The ring advance and the band's judgement; a change of band in RUN and DRAIN recomputes the target and commands the
splitter (R114, R117, R118). -/
def advanceRing (s : State) : State :=
  let st := s.station.advance
  let band := st.judge
  let st1 := ({ st with band := band } : Station).retarget
  if band = st.band then s.setStation st
  else if st.mode.firing then commandSplitter (s.setStation st1)
  else s.setStation st1

/-- The Station Controller takes a change of mode: MODE, BLIND, the rotor target, and on entry into RUN the splitter
(R126, R127, R121, R123). -/
def takeStationMode (m : Mode) (s : State) : State :=
  let st := ({ s.station with mode := m } : Station).retarget
  let h := { st.holds with mode := decide (m ≠ .run), blind := decide (m = .run) && !st.portULinked }
  let s1 := setHolds h (s.setStation st)
  if m = .run then commandSplitter s1 else s1

/-- One report taken from the channel of a block: the hold-reason set after it (R125). -/
def occupancyReport (on : Bool) (st : Station) : HoldSet := { st.holds with occupancy := on }

/-- Port U's report: BLIND set on leaving LINKED in RUN, cleared on becoming LINKED (R127). -/
def portUReport (r : LinkReport) (s : State) : State :=
  match r with
  | .left =>
    let s1 := s.setStation { s.station with portULinked := false }
    setHolds { s.station.holds with blind := s.station.holds.blind || decide (s.station.mode = .run) } s1
  | .became =>
    let s1 := s.setStation { s.station with portULinked := true }
    setHolds { s.station.holds with blind := false } s1

/-- A bank's AIR report: AIR is set while at least one bank reports it (R102). -/
def airReportTaken (b : BankIx) (on : Bool) (s : State) : State :=
  let bit := BitVec.twoPow 4 b.val
  let banks := if on then s.station.airBanks ||| bit else s.station.airBanks &&& ~~~bit
  setHolds { s.station.holds with air := decide (banks ≠ 0) } (s.setStation { s.station with airBanks := banks })

/-- The three frames of a link-up: feeder, rotor, splitter (R129). -/
def issueAll (s : State) : State := issueDrive .splitter (issueDrive .rotor (issueDrive .feeder s))

/-! ## The commands -/

/-- STATION_TICK (R122). -/
def execStationTick : State → Answered :=
  whenRunning fun s =>
    if s.station.slewed = s.station.setpoint then s
    else issueDrive .rotor (s.setStation { s.station with setpoint := s.station.slewed })

/-- BURDEN_CONTRIBUTION: the oldest contribution handed by the Intake (R49, R113). -/
def execBurdenContribution : State → Answered :=
  whenRunning fun s =>
    match s.handed.burden with
    | [] => s
    | n :: rest => { s with station := s.station.contribute n, handed := { s.handed with burden := rest } }

/-- RING_ADVANCE: a crossing handed by the Position Unit (R114). -/
def execRingAdvance : State → Answered :=
  whenRunning fun s =>
    if s.handed.ring = 0 then s else advanceRing { s with handed := { s.handed with ring := s.handed.ring - 1 } }

/-- STATION_MODE_CHANGE: the oldest mode change handed by the Mode Controller (R126, R135). -/
def execStationModeChange : State → Answered :=
  whenRunning fun s =>
    match s.handed.stationModes with
    | [] => s
    | m :: rest => takeStationMode m { s with handed := { s.handed with stationModes := rest } }

/-- HOLD_REASON_REPORT: the oldest report of a block; Port D's reports are taken here when it left LINKED, and by
PORT_D_LINKED when it became LINKED (R125, R127, R128, R129). -/
def execHoldReasonReport (src : ReasonSource) : State → Answered :=
  whenRunning fun s =>
    match src with
    | .itemTrack =>
      match s.handed.occupancy with
      | [] => s
      | on :: rest =>
        setHolds (occupancyReport on s.station) { s with handed := { s.handed with occupancy := rest } }
    | .portU =>
      match s.handed.portUStation with
      | [] => s
      | r :: rest => portUReport r { s with handed := { s.handed with portUStation := rest } }
    | .portD =>
      match s.handed.portDStation with
      | .left :: rest =>
        setHolds { s.station.holds with actuator := true } { s with handed := { s.handed with portDStation := rest } }
      | _ => s
    | .bank b =>
      match (s.bankHanded b).air with
      | [] => s
      | on :: rest => airReportTaken b on (s.setBankHanded b { s.bankHanded b with air := rest })

/-- PORT_D_LINKED (R129). -/
def execPortDLinked : State → Answered :=
  whenRunning fun s =>
    match s.handed.portDStation with
    | .became :: rest =>
      let s1 := { s with handed := { s.handed with portDStation := rest } }
      issueAll (s1.setStation (s1.station.settle { s1.station.holds with actuator := false }))
    | _ => s

end Sys2Proof.Machine
end

