-- ==== Sys2Proof/Machine/Management.lean ====
section
/-! DEFINITION. The Management Engine: the request queue, every request and its answer, SOFT RESET (spec 09, and the
requests the other chapters specify). -/

namespace Sys2Proof.Machine

/-! ## Executing the head of the queue -/

/-- What a request does as it executes: the state it leaves and its answer. -/
abbrev Act := State → State × Answer

/-- A request that only reads. -/
def reads (a : State → Answer) : Act := fun s => (s, a s)

/-- The Management Engine executes the request at the head of its queue when it is of the kind asked for: the effect, the
answer into the return queue, the request out of the queue (R172). While a SOFT RESET waits to be performed it takes no
request (R179). -/
def serve (want : Decoded → Option Act) (s : State) : State :=
  if s.mgmt.softReset ≠ .none then s
  else match s.mgmt.queue with
    | [] => s
    | r :: rest =>
      match want (decodeRequest r.payload) with
      | none => s
      | some act =>
        let out := act s
        pushOwn (answerFrame r out.2) { out.1 with mgmt := { out.1.mgmt with queue := rest } }

/-! ## Reads -/

/-- READ TABLE naming LINE (R174, R175). -/
def readLineAct (bank first count : Nat) : Act :=
  reads fun s => answerTable .line bank first count 1 [] LineEntry.bytes [s.mgmt.line]

/-- READ TABLE naming STATION (R119). -/
def readStationAct (bank first count : Nat) : Act :=
  reads fun s => answerTable .station bank first count 1 [] StationEntry.bytes [s.station.entry]

/-- READ TABLE naming BAND (R116). -/
def readBandAct (bank first count : Nat) : Act :=
  reads fun s => answerTable .band bank first count 8 [] BandEntry.bytes s.station.bands.toList

/-- READ TABLE naming BANK (R64). -/
def readBankAct (bank first count : Nat) : Act :=
  reads fun s => answerTable .bank bank first count 4 [] BankEntry.bytes (s.banks.toList.map (·.desc))

/-- READ TABLE naming RECIPE0 or RECIPE1; the answer states the active set (R52). -/
def readRecipeAct (set : Fin 2) (bank first count : Nat) : Act :=
  reads fun s =>
    answerTable (.recipe set) bank first count 8 (u8 s.cls.active.val) Rule.bytes s.cls.sets[set].entries

/-- READ TABLE naming TRACK (R36). -/
def readTrackAct (bank first count : Nat) : Act :=
  reads fun s => answerTable .track bank first count 6 [] Item.bytes s.track

/-- READ TABLE naming WINDOWS; a bank above 3 is refused with INDEX (R79). -/
def readWindowsAct (bank first count : Nat) : Act :=
  reads fun s =>
    if h : bank < 4 then answerTable .windows bank first count 5 [] Window.bytes (s.bank ⟨bank, h⟩).windows
    else .refuse .index

/-- READ STATUS (R176). -/
def readStatusAct : Act := reads fun s => .okWith (statusBytes s)

/-- The counters of a group; none for a bank above 3 (R177). -/
def groupCounters (g : GroupId) (bank : Nat) (s : State) : Option (List Counter) :=
  match g with
  | .intake => some s.intake.counters.list
  | .tally set => some s.cls.tallies[set].toList
  | .bank => if h : bank < 4 then some (s.bank ⟨bank, h⟩).counters.list else none
  | .link => some (linkCounters s)

/-- READ COUNTERS (R177). That an OK answer echoes the sent bank byte for a group other than BANK too, where R193 ignores it, is
the model's choice (log 30). -/
def readCountersAct (g : GroupId) (bank : Nat) : Act :=
  reads fun s =>
    match groupCounters g bank s with
    | some cs => .okWith (u8 g.code ++ u8 bank ++ counterBytes cs)
    | none => .refuse .index

/-! ## Writes -/

/-- The line is in a mode in which LINE, the active recipe set and bank identities are not written (R175, R53, R60). -/
def State.running (s : State) : Bool := s.mc.mode.firing

/-- An accepted LINE write; a changed slot_us recomputes C (R9, R12, R175). -/
def applyLine (e : LineEntry) (s : State) : State :=
  { s with
    mgmt := { s.mgmt with line := e }
    pos := if e.slotUs = s.mgmt.line.slotUs then s.pos else { s.pos with c := countsPerSlot e.slotUs s.pos.w } }

/-- WRITE TABLE naming LINE: INDEX, MODE, RANGE, else accepted (R175). -/
def writeLineAct (index : Nat) (entry : List Byte) : Act := fun s =>
  if index ≠ 0 then (s, .refuse .index)
  else if s.running then (s, .refuse .mode)
  else if !(LineEntry.ofBytes entry).inRange then (s, .refuse .range)
  else (applyLine (.ofBytes entry) s, .done)

/-- The setpoint lies outside a rotor range (R120). -/
def outOfRange (e : StationEntry) (setpoint : Nat) : Bool := decide (setpoint < e.rotMin) || decide (e.rotMax < setpoint)

/-- An accepted STATION write, in the order of R120: clamp and rotor frame, target, a frame to each changed node. Its step 3
does not order the frames to several changed nodes: rotor, splitter, feeder is the model's choice (log 28). -/
def applyStation (e : StationEntry) (s : State) : State :=
  let old := s.station.entry
  let out := outOfRange e s.station.setpoint
  let s1 := s.setStation { s.station with entry := e, setpoint := clamp s.station.setpoint e.rotMin e.rotMax }
  let s2 := if out then issueDrive .rotor s1 else s1
  let s3 := s2.setStation s2.station.retarget
  let s4 := if e.rotorNode ≠ old.rotorNode ∧ !out then issueDrive .rotor s3 else s3
  let s5 := if e.splitterNode ≠ old.splitterNode then issueDrive .splitter s4 else s4
  if e.feederNode ≠ old.feederNode then issueDrive .feeder s5 else s5

/-- WRITE TABLE naming STATION: INDEX, RANGE, else accepted (R119). -/
def writeStationAct (index : Nat) (entry : List Byte) : Act := fun s =>
  if index ≠ 0 then (s, .refuse .index)
  else if !(StationEntry.ofBytes entry).inRange then (s, .refuse .range)
  else (applyStation (.ofBytes entry) s, .done)

/-- An accepted BAND write: the present band's entry acts at once (R116, R118, R121, R123). -/
def applyBand (k : Fin 8) (e : BandEntry) (s : State) : State :=
  let old := s.station.bands[k]
  let s1 := s.setStation ({ s.station with bands := s.station.bands.set k e } : Station).retarget
  if k = s.station.band ∧ s.station.mode.firing ∧ e.split ≠ old.split then commandSplitter s1 else s1

/-- WRITE TABLE naming BAND: INDEX, RANGE, else accepted (R116). -/
def writeBandAct (index : Nat) (entry : List Byte) : Act := fun s =>
  if h : index < 8 then
    if !(BandEntry.ofBytes entry).inRange then (s, .refuse .range)
    else (applyBand ⟨index, h⟩ (.ofBytes entry) s, .done)
  else (s, .refuse .index)

/-- The written kind, node or lanes differs from the entry's (R60). -/
def identityDiffers (old : BankEntry) (entry : List Byte) : Bool :=
  decide (fld entry 0 1 ≠ old.kind.code) || decide (fld entry 1 1 ≠ old.node) || decide (fld entry 2 1 ≠ old.lanes)

/-- An accepted BANK write; a change of the AIR combination is reported (R60, R62, R102). -/
def applyBank (b : BankIx) (e : BankEntry) (s : State) : State :=
  let s1 := endHold b s
  reportAir b (s1.setBank b { s1.bank b with desc := e })

/-- WRITE TABLE naming BANK: INDEX, MODE, RANGE, else accepted (R60, R61). -/
def writeBankAct (index : Nat) (entry : List Byte) : Act := fun s =>
  if h : index < 4 then
    if s.running && identityDiffers (s.bank ⟨index, h⟩).desc entry then (s, .refuse .mode)
    else match BankEntry.ofBytes entry with
      | none => (s, .refuse .range)
      | some e => if e.inRange then (applyBank ⟨index, h⟩ e s, .done) else (s, .refuse .range)
  else (s, .refuse .index)

/-- Replace a recipe set. -/
def State.setRecipe (s : State) (set : Fin 2) (r : RecipeSet) : State :=
  { s with cls := { s.cls with sets := s.cls.sets.set set r } }

/-- WRITE TABLE naming RECIPE0 or RECIPE1: INDEX, ACTIVE_SET, RANGE, else accepted (R53, R54); index 48 writes the default
rule (R55). -/
def writeRecipeAct (set : Fin 2) (index : Nat) (entry : List Byte) : Act := fun s =>
  if 48 < index then (s, .refuse .index)
  else if s.running ∧ set = s.cls.active then (s, .refuse .activeSet)
  else if h : index < 48 then
    match Rule.ofBytes entry with
    | none => (s, .refuse .range)
    | some r =>
      if r.inRange then
        (s.setRecipe set { s.cls.sets[set] with rules := s.cls.sets[set].rules.set index r }, .done)
      else (s, .refuse .range)
  else
    match RuleResult.ofBytes entry with
    | none => (s, .refuse .range)
    | some r =>
      if r.inRange then (s.setRecipe set { s.cls.sets[set] with dflt := r }, .done) else (s, .refuse .range)

/-! ## Other requests -/

/-- SELECT SET: 0 or 1, else RANGE; the answer states the set before and after (R50). -/
def selectSetAct (n : Nat) : Act := fun s =>
  if h : n < 2 then
    ({ s with cls := { s.cls with active := ⟨n, h⟩ } }, .okWith (u8 s.cls.active.val ++ u8 n))
  else (s, .refuse .range)

/-- HOLD FEED sets OPERATOR, RELEASE FEED clears it (R130). -/
def operatorAct (on : Bool) : Act := fun s => (setHolds { s.station.holds with operator := on } s, .done)

/-- A link with its counters at 0 (R171, R178). -/
def Link.clearCounters (l : Link) : Link :=
  { l with retrains := 0, codeErrors := 0, warnings := 0, badFrames := 0, misdirected := 0 }

/-- Both ports' counters at 0 (R171, R178). -/
def clearLink (s : State) : State :=
  { s with
    portU := { s.portU with link := s.portU.link.clearCounters, relayDrops := 0, returnDrops := 0 }
    portD := { s.portD with
      link := s.portD.link.clearCounters, unknownSource := 0, relayDrops := 0, fireOverruns := 0 } }

/-- A group cleared: every counter 0, a bank's created counter its list length (R178); none for a bank above 3 (R193). -/
def clearGroup (g : GroupId) (bank : Nat) (s : State) : Option State :=
  match g with
  | .intake => some (s.setIntakeCounters .zero)
  | .tally set => some { s with cls := { s.cls with tallies := s.cls.tallies.set set (Vector.replicate 49 0) } }
  | .bank =>
    if h : bank < 4 then
      let u := s.bank ⟨bank, h⟩
      some (s.setBank ⟨bank, h⟩
        { u with counters := { BankCounters.zero with created := BitVec.ofNat 32 u.windows.length } })
    else none
  | .link => some (clearLink s)

/-- CLEAR COUNTERS (R178). -/
def clearCountersAct (g : GroupId) (bank : Nat) : Act := fun s =>
  match clearGroup g bank s with
  | some s1 => (s1, .done)
  | none => (s, .refuse .index)

/-- CLEAR EVENTS: the answer states the flags set after the clear (R184). -/
def clearEventsAct (named : BitVec 15) : Act := fun s =>
  (setFlags (s.mgmt.flags &&& ~~~named) s, .okWith (u16 (s.mgmt.flags &&& ~~~named).toNat))

/-- SET MASK (R182). -/
def setMaskAct (mask : BitVec 15) : Act := fun s => (setEventMask mask s, .done)

/-! ## SOFT RESET -/

/-- An answer of an earlier SOFT RESET is an ordinary answer to a later one (log 12). -/
def TxFrame.settled : TxFrame → TxFrame
  | .resetAnswer f => .own f
  | f => f

/-- SOFT RESET executes: its OK answer goes to the return queue and the reset waits for it to be sent; with Port U not
LINKED or the queue full the reset is due at once, and an answer that found the queue full is kept aside (R179). The
request keeps its place until the reset is performed (log 12). -/
def acceptReset (r : Request) (s : State) : State :=
  let f := answerFrame r .done
  let queue := s.portU.queue.map TxFrame.settled
  let tx := s.portU.tx.map TxFrame.settled
  if queue.length < Config.returnCapacity then
    offerReturn
      { s with
        portU := { s.portU with queue := queue ++ [.resetAnswer f], tx := tx }
        mgmt := { s.mgmt with softReset := if s.linked .u then .waiting else .due none } }
  else
    { s with
      portU := { s.portU with queue := queue, tx := tx }
      mgmt := { s.mgmt with softReset := .due (some f) } }

/-- The return queue that a reset leaves: the answer it keeps and nothing else (R179). -/
def keptAnswers (kept : Option Frame) (queue : List TxFrame) : List TxFrame :=
  queue.filter TxFrame.isResetAnswer ++ (kept.map TxFrame.resetAnswer).toList

/-- The ports' part of a reset: queues and arbiter emptied, the proving run ended, result and counters cleared; states,
locks, windows, runs, warnings and the frames being sent kept (R170). -/
def resetPorts (kept : Option Frame) (s : State) : State :=
  let s1 := clearLink (endRun s)
  { s1 with
    portU := { s1.portU with queue := keptAnswers kept s1.portU.queue }
    portD := { s1.portD with relay := [], fire := Vector.replicate 4 none, drive := [] }
    proving := ⟨none, none⟩ }

/-- A Bank Unit's part of a reset: lists, lanes, images and counters; the inhibit flag, hold count and descriptor kept
(R34, R110); the AIR report as the kept hold implies (R102). -/
def resetBank (u : BankUnit) : BankUnit :=
  { u with
    mode := .standby
    windows := []
    lanes := Vector.replicate 128 .rest
    composed := 0
    latched := 0
    airReport := u.holdsFeeder
    holdEnd := false
    counters := .zero }

/-- The reports a reset takes away: retirement reports (R34), and the mode changes, OCCUPANCY and AIR reports that the
reset's own state replaces (R133, R180; log 6). -/
def resetHanded (h : Handed) : Handed :=
  { h with
    occupancy := []
    stationModes := []
    banks := h.banks.map fun b => { b with modes := [], retired := [], air := [] } }

/-- The banks whose kept hold and descriptor imply an AIR report (R102, R133). -/
def airBanksOf (s : State) : BitVec 4 :=
  BankIx.all.foldl (fun v b => if (s.bank b).holdsFeeder then v ||| BitVec.twoPow 4 b.val else v) 0

/-- The Station Controller's part of a reset: ring, B and band 0, the idle target, the hold-reason set recomputed; a HOLD
frame when the command was RELEASE (R115, R133). -/
def resetStation (s : State) : State :=
  let st : Station :=
    { s.station with
      mode := .standby, current := 0, closed := Vector.replicate 7 0, b := 0, band := 0, airBanks := airBanksOf s }
  setHolds
    { mode := true, occupancy := false, blind := false, actuator := !s.linked .d, air := decide (airBanksOf s ≠ 0)
      operator := false }
    (s.setStation st.retarget)

/-- Every block takes the reset (R180), the ports first, so that the frames the reset issues are not among those they
discard; the answer that the reset keeps then takes Port U's lane when that is free (R164, R179). -/
def resetBlocks (kept : Option Frame) (s : State) : State :=
  let s1 := resetPorts kept s
  resetStation <| offerReturn
    { s1 with
      pos := { s1.pos with illegal := 0 }
      intake := ⟨[], 0, .zero⟩
      cls := { s1.cls with tallies := Vector.replicate 2 (Vector.replicate 49 0) }
      track := []
      banks := s1.banks.map resetBank
      mc := ⟨.standby, .none, 0, none, none⟩
      mgmt := { s1.mgmt with queue := [], flags := 0, alert := false, softReset := .none }
      handed := resetHanded s1.handed }

/-! ## The commands -/

/-- REQUEST_ARRIVAL: the oldest REQUEST handed by Port U joins the queue, or is answered BUSY when 4 are held (R172). -/
def execRequestArrival : State → Answered :=
  whenRunning fun s =>
    match s.handed.requests with
    | [] => s
    | r :: rest =>
      let s1 := { s with handed := { s.handed with requests := rest } }
      if s.mgmt.queue.length < Config.requestCapacity then
        { s1 with mgmt := { s1.mgmt with queue := s1.mgmt.queue ++ [r] } }
      else pushOwn (answerFrame r (.refuse .busy)) s1

/-- UNKNOWN_REQUEST: a request whose decoding fails (R173, R193). -/
def execUnknownRequest : State → Answered :=
  whenRunning (serve fun | .bad c => some (reads fun _ => .refuse c) | _ => none)

/-- READ_LINE (R175). -/
def execReadLine : State → Answered :=
  whenRunning (serve fun | .readTable .line b f n => some (readLineAct b f n) | _ => none)

/-- READ_STATION (R119). -/
def execReadStation : State → Answered :=
  whenRunning (serve fun | .readTable .station b f n => some (readStationAct b f n) | _ => none)

/-- READ_BAND (R116). -/
def execReadBand : State → Answered :=
  whenRunning (serve fun | .readTable .band b f n => some (readBandAct b f n) | _ => none)

/-- READ_BANK (R64). -/
def execReadBank : State → Answered :=
  whenRunning (serve fun | .readTable .bank b f n => some (readBankAct b f n) | _ => none)

/-- READ_RECIPE (R52). -/
def execReadRecipe : State → Answered :=
  whenRunning (serve fun | .readTable (.recipe set) b f n => some (readRecipeAct set b f n) | _ => none)

/-- READ_TRACK (R36). -/
def execReadTrack : State → Answered :=
  whenRunning (serve fun | .readTable .track b f n => some (readTrackAct b f n) | _ => none)

/-- READ_WINDOWS (R79). -/
def execReadWindows : State → Answered :=
  whenRunning (serve fun | .readTable .windows b f n => some (readWindowsAct b f n) | _ => none)

/-- WRITE_LINE (R175). -/
def execWriteLine : State → Answered :=
  whenRunning (serve fun | .writeTable .line i e => some (writeLineAct i e) | _ => none)

/-- WRITE_STATION (R119, R120). -/
def execWriteStation : State → Answered :=
  whenRunning (serve fun | .writeTable .station i e => some (writeStationAct i e) | _ => none)

/-- WRITE_BAND (R116). -/
def execWriteBand : State → Answered :=
  whenRunning (serve fun | .writeTable .band i e => some (writeBandAct i e) | _ => none)

/-- WRITE_BANK (R60). -/
def execWriteBank : State → Answered :=
  whenRunning (serve fun | .writeTable .bank i e => some (writeBankAct i e) | _ => none)

/-- WRITE_RECIPE (R53). -/
def execWriteRecipe : State → Answered :=
  whenRunning (serve fun | .writeTable (.recipe set) i e => some (writeRecipeAct set i e) | _ => none)

/-- WRITE_TRACK: refused with INDEX (R36, R193). -/
def execWriteTrack : State → Answered :=
  whenRunning (serve fun | .writeTable .track _ _ => some (reads fun _ => .refuse .index) | _ => none)

/-- WRITE_WINDOWS: refused with INDEX (R79, R193). -/
def execWriteWindows : State → Answered :=
  whenRunning (serve fun | .writeTable .windows _ _ => some (reads fun _ => .refuse .index) | _ => none)

/-- START (R136). -/
def execStart : State → Answered := whenRunning (serve fun | .start => some doStart | _ => none)

/-- STOP (R138, R142). -/
def execStop : State → Answered := whenRunning (serve fun | .stop => some doStop | _ => none)

/-- PROVE (R151, R165). -/
def execProve : State → Answered := whenRunning (serve fun | .prove p r d => some (doProve p r d) | _ => none)

/-- CLEAR_FAULT with STOPn at the level given as the request executes (R149). -/
def execClearFault (stop : StopLevel) : State → Answered :=
  whenRunning (serve fun | .clearFault => some (fun s => doClearFault stop { s with stopn := stop }) | _ => none)

/-- SOFT_RESET (R179). -/
def execSoftReset : State → Answered :=
  whenRunning fun s =>
    if s.mgmt.softReset ≠ .none then s
    else match s.mgmt.queue with
      | [] => s
      | r :: _ => if decodeRequest r.payload = .softReset then acceptReset r s else s

/-- SOFT_RESET_PERFORMED: a due reset is performed; then STOPn is read, and an emergency stop follows when it is asserted
(R152, R179, R180). -/
def execSoftResetPerformed (stop : StopLevel) : State → Answered :=
  whenRunning fun s =>
    match s.mgmt.softReset with
    | .due kept => readStop stop (resetBlocks kept s)
    | .none => s
    | .waiting => s

/-- SELECT_SET (R50). -/
def execSelectSet : State → Answered := whenRunning (serve fun | .selectSet n => some (selectSetAct n) | _ => none)

/-- HOLD_FEED (R130). -/
def execHoldFeed : State → Answered := whenRunning (serve fun | .holdFeed => some (operatorAct true) | _ => none)

/-- RELEASE_FEED (R130). -/
def execReleaseFeed : State → Answered := whenRunning (serve fun | .releaseFeed => some (operatorAct false) | _ => none)

/-- READ_STATUS (R176). -/
def execReadStatus : State → Answered := whenRunning (serve fun | .readStatus => some readStatusAct | _ => none)

/-- READ_COUNTERS (R177). -/
def execReadCounters : State → Answered :=
  whenRunning (serve fun | .readCounters g b => some (readCountersAct g b) | _ => none)

/-- CLEAR_COUNTERS (R178). -/
def execClearCounters : State → Answered :=
  whenRunning (serve fun | .clearCounters g b => some (clearCountersAct g b) | _ => none)

/-- CLEAR_EVENTS (R184). -/
def execClearEvents : State → Answered :=
  whenRunning (serve fun | .clearEvents m => some (clearEventsAct m) | _ => none)

/-- SET_MASK (R182). -/
def execSetMask : State → Answered := whenRunning (serve fun | .setMask m => some (setMaskAct m) | _ => none)

end Sys2Proof.Machine
end

