-- ==== Sys2Proof/Machine/Dispatch.lean ====
section
/-! DEFINITION. One arm per command of the table. -/

namespace Sys2Proof.Machine

/-- The effect of a command on everything but the queue of waiting commands. -/
def exec (i : Instr) (s : State) : Host.Outcome State Fault Refusal :=
  match i with
  | .powerOn straps enc stop => Sys2Proof.Machine.execPowerOn straps enc stop s
  | .forwardCount => Sys2Proof.Machine.execForwardCount s
  | .reverseCount => Sys2Proof.Machine.execReverseCount s
  | .illegalTransition => Sys2Proof.Machine.execIllegalTransition s
  | .binClose => Sys2Proof.Machine.execBinClose s
  | .slotBoundary part => Sys2Proof.Machine.execSlotBoundary part s
  | .airLowHoldEnd b => Sys2Proof.Machine.execAirLowHoldEnd b s
  | .stationTick => Sys2Proof.Machine.execStationTick s
  | .emergencyStop => Sys2Proof.Machine.execEmergencyStop s
  | .encoderFault => Sys2Proof.Machine.execEncoderFault s
  | .beltReversal => Sys2Proof.Machine.execBeltReversal s
  | .frameReceived p bytes => Sys2Proof.Machine.execFrameReceived p bytes s
  | .detectFrame => Sys2Proof.Machine.execDetectFrame s
  | .detectRecord => Sys2Proof.Machine.execDetectRecord s
  | .burdenContribution => Sys2Proof.Machine.execBurdenContribution s
  | .ringAdvance => Sys2Proof.Machine.execRingAdvance s
  | .drainTimeout => Sys2Proof.Machine.execDrainTimeout s
  | .retirementReport b => Sys2Proof.Machine.execRetirementReport b s
  | .trackEmptyReport => Sys2Proof.Machine.execTrackEmptyReport s
  | .flush => Sys2Proof.Machine.execFlush s
  | .bankModeChange b => Sys2Proof.Machine.execBankModeChange b s
  | .stationModeChange => Sys2Proof.Machine.execStationModeChange s
  | .holdReasonReport src => Sys2Proof.Machine.execHoldReasonReport src s
  | .portDLinked => Sys2Proof.Machine.execPortDLinked s
  | .blindSpanBegin => Sys2Proof.Machine.execBlindSpanBegin s
  | .blindSpanEnd => Sys2Proof.Machine.execBlindSpanEnd s
  | .statusFrame b => Sys2Proof.Machine.execStatusFrame b s
  | .signalDetected p => Sys2Proof.Machine.execSignalDetected p s
  | .receiverLocked p => Sys2Proof.Machine.execReceiverLocked p s
  | .partnerReadyChange p mark => Sys2Proof.Machine.execPartnerReadyChange p mark s
  | .signalLoss p => Sys2Proof.Machine.execSignalLoss p s
  | .monitorWindowClose p => Sys2Proof.Machine.execMonitorWindowClose p s
  | .portDFrameSent => Sys2Proof.Machine.execPortDFrameSent s
  | .portUFrameSent => Sys2Proof.Machine.execPortUFrameSent s
  | .checkerSync bits => Sys2Proof.Machine.execCheckerSync bits s
  | .provingExpiry => Sys2Proof.Machine.execProvingExpiry s
  | .provingExpiryReport => Sys2Proof.Machine.execProvingExpiryReport s
  | .requestArrival => Sys2Proof.Machine.execRequestArrival s
  | .unknownRequest => Sys2Proof.Machine.execUnknownRequest s
  | .readLine => Sys2Proof.Machine.execReadLine s
  | .readStation => Sys2Proof.Machine.execReadStation s
  | .readBand => Sys2Proof.Machine.execReadBand s
  | .readBank => Sys2Proof.Machine.execReadBank s
  | .readRecipe => Sys2Proof.Machine.execReadRecipe s
  | .readTrack => Sys2Proof.Machine.execReadTrack s
  | .readWindows => Sys2Proof.Machine.execReadWindows s
  | .writeLine => Sys2Proof.Machine.execWriteLine s
  | .writeStation => Sys2Proof.Machine.execWriteStation s
  | .writeBand => Sys2Proof.Machine.execWriteBand s
  | .writeBank => Sys2Proof.Machine.execWriteBank s
  | .writeRecipe => Sys2Proof.Machine.execWriteRecipe s
  | .writeTrack => Sys2Proof.Machine.execWriteTrack s
  | .writeWindows => Sys2Proof.Machine.execWriteWindows s
  | .start => Sys2Proof.Machine.execStart s
  | .stop => Sys2Proof.Machine.execStop s
  | .prove => Sys2Proof.Machine.execProve s
  | .clearFault stop => Sys2Proof.Machine.execClearFault stop s
  | .softReset => Sys2Proof.Machine.execSoftReset s
  | .softResetPerformed stop => Sys2Proof.Machine.execSoftResetPerformed stop s
  | .selectSet => Sys2Proof.Machine.execSelectSet s
  | .holdFeed => Sys2Proof.Machine.execHoldFeed s
  | .releaseFeed => Sys2Proof.Machine.execReleaseFeed s
  | .readStatus => Sys2Proof.Machine.execReadStatus s
  | .readCounters => Sys2Proof.Machine.execReadCounters s
  | .clearCounters => Sys2Proof.Machine.execClearCounters s
  | .clearEvents => Sys2Proof.Machine.execClearEvents s
  | .setMask => Sys2Proof.Machine.execSetMask s
  | .checkerMismatch bits => Sys2Proof.Machine.execCheckerMismatch bits s
  | .codeError p inFrame => Sys2Proof.Machine.execCodeError p inFrame s
  | .resetnAsserted => Sys2Proof.Machine.execResetnAsserted s

end Sys2Proof.Machine
end

