-- ==== Sys2Proof/Safety.lean ====
section
/-! DEFINITION. What a safe state of the NS-2408 is: the relations between its registers that the spec says always hold,
and the words the statements of Certificates/Slice0 use. -/

namespace Sys2Proof.Machine

/-! ## Words for the statements -/

/-- The Management Engine can execute `r`: RESETn is released, no SOFT RESET waits to be performed, and `r` is the head of
the request queue with `rest` behind it (R172, R179). -/
def Serves (s : State) (r : Request) (rest : List Request) : Prop :=
  s.inReset = false ∧ s.mgmt.softReset = .none ∧ s.mgmt.queue = r :: rest

/-- The head request has left the queue and its answer has been handed to the return queue (R172, R173). -/
def answered (r : Request) (rest : List Request) (a : Answer) (s : State) : State :=
  pushOwn (answerFrame r a) { s with mgmt := { s.mgmt with queue := rest } }

/-- The answer of a READ TABLE (R174, R192): INDEX when the first index lies beyond the last entry, index 0 of an empty
table excepted; otherwise OK with the table code, the bank byte, the first index, the number returned, the extra byte of a
recipe table, and the entries from the first index onward, up to the number asked for and the most that fit. -/
def tableRead (code bank first count most : Nat) (extra : List Byte) (entries : List (List Byte)) : Answer :=
  if first < entries.length ∨ (first = 0 ∧ entries.length = 0) then
    .okWith
      (u8 code ++ u8 bank ++ u16 first ++ u8 (min (min count most) (entries.length - first)) ++ extra
        ++ ((entries.drop first).take (min count most)).flatten)
  else .refuse .index

/-- The frames of Port U's return lane in the order they go: the one on the lane, then those that wait (R164). -/
def State.returnFrames (s : State) : List TxFrame := s.portU.tx.toList ++ s.portU.queue

/-- Port D's forward lane is free and nothing waits for it (R163). -/
def State.forwardIdle (s : State) : Prop :=
  s.portD.tx = none ∧ (∀ b : BankIx, s.portD.fire[b] = none) ∧ s.portD.drive = [] ∧ s.portD.relay = []

/-- Everything but the block of bank `b`, the reports to and from it, Port D's arbiter and lane, the flags and what joins the
return queue is the same in two states: the other banks with their reports, and every other report that one block has handed
to another. -/
def SameOutsideBank (b : BankIx) (s t : State) : Prop :=
  t.pending = s.pending ∧ t.inReset = s.inReset ∧ t.nodeAddr = s.nodeAddr ∧ t.stopn = s.stopn ∧ t.pos = s.pos
    ∧ t.intake = s.intake ∧ t.cls = s.cls ∧ t.track = s.track ∧ t.station = s.station ∧ t.mc = s.mc
    ∧ t.proving = s.proving ∧ t.portU.link = s.portU.link ∧ s.returnFrames <+: t.returnFrames
    ∧ t.portU.relayDrops = s.portU.relayDrops ∧ t.portD.link = s.portD.link
    ∧ t.portD.unknownSource = s.portD.unknownSource ∧ t.portD.relayDrops = s.portD.relayDrops
    ∧ t.mgmt.queue = s.mgmt.queue ∧ t.mgmt.line = s.mgmt.line ∧ t.mgmt.mask = s.mgmt.mask
    ∧ t.mgmt.softReset = s.mgmt.softReset
    ∧ t.handed = { s.handed with banks := t.handed.banks }
    ∧ (∀ c, c ≠ b → t.bank c = s.bank c ∧ t.bankHanded c = s.bankHanded c)

/-- The frame on a transmit lane is a relayed one. -/
def cutsRelayed (tx : Option TxFrame) : Prop := ∃ bytes, tx = some (.relayed bytes)

/-- The frame on a transmit lane is one of the part's own. -/
def cutsOwn (tx : Option TxFrame) : Prop := ∃ f, tx = some f ∧ f.isRelayed = false

/-- The flag raised for the frame that a change out of LINKED cuts off: RELAY_DROP for a relayed one (R156). -/
def cutFlags (tx : Option TxFrame) : List EventFlag :=
  match tx with
  | some (.relayed _) => [.relayDrop]
  | _ => []

/-- What a change out of LINKED does besides the link (R156): the reports; the frame being sent cut off, a relayed one
counted with RELAY_DROP, an answer or notice counted; at Port D, DOWNLINK_LOST and the waiting FIRE and DRIVE frames
discarded; the relay queue, and the frames of the return queue, kept. The flags, and `more` flags of the same event, are raised
as any flags are, with their NOTICE frames (R183), at Port U once its lane is cut off (log 28). -/
def LeftLinked (p : PortId) (more : List EventFlag) (s t : State) : Prop :=
  match p with
  | .u =>
    t.portU.tx = none ∧ t.portD = s.portD ∧ s.portU.queue <+: t.portU.queue
      ∧ t.handed.portUMode = s.handed.portUMode ++ [.link .left]
      ∧ t.handed.portUStation = s.handed.portUStation ++ [.left]
      ∧ t.handed.portDStation = s.handed.portDStation
      ∧ (cutsRelayed s.portU.tx →
          t.portU.relayDrops = satInc s.portU.relayDrops ∧ t.mgmt.flags.getLsbD EventFlag.relayDrop.num = true)
      ∧ (cutsOwn s.portU.tx → satInc s.portU.returnDrops ≤ t.portU.returnDrops)
      ∧ (¬ cutsRelayed s.portU.tx → t.portU.relayDrops = s.portU.relayDrops)
      ∧ (s.mgmt.softReset = .waiting → t.mgmt.softReset = .due none)
      ∧ (s.mgmt.softReset ≠ .waiting → t.mgmt.softReset = s.mgmt.softReset)
      ∧ ∀ u : State,
          u = { s with
            portU := { s.portU with
              link := t.portU.link, tx := none, relayDrops := t.portU.relayDrops
              returnDrops := match s.portU.tx with
                | some (.own _) => satInc s.portU.returnDrops
                | some (.resetAnswer _) => satInc s.portU.returnDrops
                | _ => s.portU.returnDrops }
            mgmt := { s.mgmt with softReset := t.mgmt.softReset } } →
          t.mgmt = (raise (more ++ cutFlags s.portU.tx) u).mgmt ∧ t.portU = (raise (more ++ cutFlags s.portU.tx) u).portU
  | .d =>
    t.portD.tx = none ∧ t.portD.fire = Vector.replicate 4 none ∧ t.portD.drive = []
      ∧ t.portD.relay = s.portD.relay ∧ t.portD.fireOverruns = s.portD.fireOverruns
      ∧ t.portD.unknownSource = s.portD.unknownSource
      ∧ t.portU.link = s.portU.link ∧ s.returnFrames <+: t.returnFrames
      ∧ t.handed.portDStation = s.handed.portDStation ++ [.left]
      ∧ t.handed.portUMode = s.handed.portUMode ∧ t.handed.portUStation = s.handed.portUStation
      ∧ t.mgmt.flags.getLsbD EventFlag.downlinkLost.num = true
      ∧ (cutsRelayed s.portD.tx →
          t.portD.relayDrops = satInc s.portD.relayDrops ∧ t.mgmt.flags.getLsbD EventFlag.relayDrop.num = true)
      ∧ (¬ cutsRelayed s.portD.tx → t.portD.relayDrops = s.portD.relayDrops)
      ∧ t.mgmt.softReset = s.mgmt.softReset
      ∧ t.mgmt = (raise (more ++ .downlinkLost :: cutFlags s.portD.tx) s).mgmt
      ∧ t.portU = (raise (more ++ .downlinkLost :: cutFlags s.portD.tx) s).portU

/-- Everything outside the ports, their reports of changes into and out of LINKED (R156), the proving run, the flags and the
SOFT RESET is the same in two states: every other report that one block has handed to another among it. -/
def SameOutsidePorts (s t : State) : Prop :=
  t.pending = s.pending ∧ t.inReset = s.inReset ∧ t.nodeAddr = s.nodeAddr ∧ t.stopn = s.stopn ∧ t.pos = s.pos
    ∧ t.intake = s.intake ∧ t.cls = s.cls ∧ t.track = s.track ∧ t.banks = s.banks ∧ t.station = s.station
    ∧ t.mc = s.mc ∧ t.mgmt.queue = s.mgmt.queue ∧ t.mgmt.line = s.mgmt.line ∧ t.mgmt.mask = s.mgmt.mask
    ∧ t.handed = { s.handed with
        portUMode := t.handed.portUMode, portUStation := t.handed.portUStation, portDStation := t.handed.portDStation }

/-- A window asks for a lane of the next slot: an EJECT window that demands, over the lane, which it has not truncated
(R87, R92). -/
def Window.Asks (k : Conditions) (lane : Nat) (w : Window) : Prop :=
  w.kind = .eject ∧ (sdiff w.openPos k.p < (max k.c 1 : Nat) ∨ w.trimmed = true) ∧ 0 < sdiff w.closePos k.p
    ∧ w.lo ≤ lane ∧ lane ≤ w.hi ∧ w.truncated.getLsbD lane = false

/-- A window guards a lane of the next slot: a PROTECT window that demands, over the lane (R87, R93). -/
def Window.Guards (k : Conditions) (lane : Nat) (w : Window) : Prop :=
  w.kind = .protect ∧ (sdiff w.openPos k.p < (max k.c 1 : Nat) ∨ w.trimmed = true) ∧ 0 < sdiff w.closePos k.p
    ∧ w.lo ≤ lane ∧ lane ≤ w.hi

/-- What blocks a lane at a composition (R90). -/
def LaneBlocked (k : Conditions) (u : BankUnit) (l : Lane) : Prop :=
  0 < l.recoveryLeft ∨ u.desc.maxSlots ≤ l.onRun ∨ (u.desc.kind = .coil ∧ l.thermal = .cooling) ∨ u.inhibit = true
    ∨ (u.mode ≠ .run ∧ u.mode ≠ .drain) ∨ k.linked = false

/-- What a Bank Unit reads as it takes a boundary: P, C, the stall state, Port D (R82, R88). -/
def State.atBoundary (s : State) : Conditions where
  p := s.pos.tp + BitVec.ofNat 32 s.pos.c
  c := s.pos.c
  stalled := decide (s.pos.stall = .stalled)
  linked := decide ((s.link .d).state = .linked)

/-- A candidate that a boundary drops in favour of a PROTECT window: neither blocked nor in hold, on a moving belt, asked
for by one EJECT window at least, and guarded, under the rule of the bank's conflict field (R92, R93). -/
def DroppedAt (s : State) (u : BankUnit) (i : Fin 128) : Prop :=
  i.val < u.desc.lanes ∧ ¬ LaneBlocked s.atBoundary u u.lanes[i] ∧ u.lanes[i].holdLeft = 0 ∧ s.pos.stall ≠ .stalled
    ∧ (∃ e ∈ u.windows, e.Asks s.atBoundary i.val)
    ∧ ∃ g ∈ u.windows, g.Guards s.atBoundary i.val
      ∧ (u.desc.conflict = .protectFirst
        ∨ (u.desc.conflict = .byPriority
          ∧ ∀ e ∈ u.windows, e.Asks s.atBoundary i.val → e.priority ≤ g.priority))

/-- The lanes ON in an image. -/
def lanesOn (image : Image) : Nat := ((List.range 128).filter fun i => image.getLsbD i).length

/-! ## Relations that always hold -/

/-- ALERT is asserted exactly while RESETn is released and some flag is both set and admitted (R182). -/
def AlertInv (s : State) : Prop := s.mgmt.alert = true ↔ s.inReset = false ∧ s.mgmt.flags &&& s.mgmt.mask ≠ 0

/-- The feeder command is HOLD exactly when the hold-reason set is non-empty (R125). -/
def FeederInv (s : State) : Prop :=
  s.station.command = .hold ↔
    (s.station.holds.mode || s.station.holds.occupancy || s.station.holds.blind || s.station.holds.actuator
      || s.station.holds.air || s.station.holds.operator) = true

/-- The fault cause is NONE in every mode but FAULT, and names a cause in FAULT (R134). -/
def CauseInv (s : State) : Prop := s.mc.cause = .none ↔ s.mc.mode ≠ .fault

/-- Every queue is within its capacity (R17, R162, R164, R172), the arbiter holds at most one DRIVE frame of a station
(R163), and an answer kept aside by a SOFT RESET that found the queue full is the only one of its kind, the answers of
earlier resets having become ordinary frames (R179; log 12). -/
def QueueInv (s : State) : Prop :=
  s.intake.held.length ≤ 4 ∧ s.mgmt.queue.length ≤ 4 ∧ s.portD.relay.length ≤ 8 ∧ s.portU.queue.length ≤ 8
    ∧ (s.portD.drive.map (·.1)).Nodup
    ∧ ∀ f, s.mgmt.softReset = .due (some f) → ∀ x ∈ s.portU.queue, x.isResetAnswer = false

/-- A lane carries a frame only while its port is LINKED (R154), and a free lane of a LINKED port has nothing waiting for it
(R163, R164), but that no frame starts on the return lane while a SOFT RESET is due (R179; log 12). The port of a proving run
in progress is in PROVING (R155, R165, R169). -/
def FreeLaneInv (s : State) : Prop :=
  ((s.link .d).state ≠ .linked → s.portD.tx = none)
    ∧ ((s.link .d).state = .linked → s.portD.tx = none → s.forwardIdle)
    ∧ ((s.link .u).state ≠ .linked → s.portU.tx = none)
    ∧ ((s.link .u).state = .linked → s.portU.tx = none → (∀ kept, s.mgmt.softReset ≠ .due kept) → s.portU.queue = [])
    ∧ ∀ run, s.proving.run = some run → (s.link run.port).state = .proving

/-- B is the sum of the eight segment sums, none of which exceeds 16,777,215 (R113). -/
def BurdenInv (s : State) : Prop :=
  s.station.b = s.station.current + s.station.closed.toList.sum ∧ s.station.current ≤ 16777215
    ∧ ∀ x ∈ s.station.closed.toList, x ≤ 16777215

/-- W is the saturating sum of the sixteen bins, C follows from W and slot_us, the bins and the illegal-transition count
are within their widths (R2, R6, R7, R9). -/
def SpeedInv (s : State) : Prop :=
  s.pos.w = min s.pos.history.toList.sum 65535 ∧ s.pos.c = (s.mgmt.line.slotUs * s.pos.w + 8000) / 16000
    ∧ s.pos.bin ≤ 65535 ∧ (∀ x ∈ s.pos.history.toList, x ≤ 65535) ∧ s.pos.illegal ≤ 255

/-- The STATION entry is within its ranges, the setpoint and the target lie within rot_min to rot_max, and the target is
the one R121 gives for the mode and band the Station Controller has taken (R119, R121, R122). -/
def RotorInv (s : State) : Prop :=
  s.station.entry.inRange = true ∧ s.station.entry.rotMin ≤ s.station.setpoint
    ∧ s.station.setpoint ≤ s.station.entry.rotMax
    ∧ s.station.target =
        clamp
          (if s.station.mode = .run ∨ s.station.mode = .drain then s.station.bands[s.station.band].f
            else s.station.entry.rotIdle)
          s.station.entry.rotMin s.station.entry.rotMax

/-- The outcome counters of a bank, and created, in one list (R111). -/
def BankCounters.balance (c : BankCounters) : List Counter :=
  [c.fired, c.partialServed, c.missed, c.suppressed, c.kept, c.breached, c.late, c.dropped, c.abandoned]

/-- For each bank, created equals the list length plus the sum of the outcome counters unless one of them has saturated,
and the list holds at most 512 windows (R78, R111). -/
def BalanceInv (s : State) : Prop :=
  ∀ b : BankIx,
    (s.bank b).windows.length ≤ 512
      ∧ ((s.bank b).counters.created = BitVec.allOnes 32
        ∨ BitVec.allOnes 32 ∈ (s.bank b).counters.balance
        ∨ (s.bank b).counters.created.toNat =
            (s.bank b).windows.length + ((s.bank b).counters.balance.map BitVec.toNat).sum)

/-- The item ids that a bank still owes the Item Track: of the windows in its list, and of the retirement reports not yet
taken (R32). -/
def State.owed (s : State) (b : BankIx) : List (BitVec 16) :=
  (s.bank b).windows.map (·.item) ++ (s.bankHanded b).retired

/-- The Item Track and the window lists agree: at most 1,024 items with distinct ids; a bank owes each id at most once,
and exactly those whose item's pending-bank set holds it; no pending-bank set is empty (R29 to R32, R78). -/
def TrackInv (s : State) : Prop :=
  s.track.length ≤ 1024 ∧ (s.track.map (·.id)).Nodup ∧ (∀ i ∈ s.track, i.pendingBanks ≠ 0)
    ∧ (∀ b, (s.owed b).Nodup)
    ∧ ∀ b id, id ∈ s.owed b ↔ ∃ i ∈ s.track, i.id = id ∧ i.pendingBanks.getLsbD b.val = true

/-- A Bank Unit that is in STANDBY, TEST or FAULT has an all-off composed image (R105). -/
def ImageInv (s : State) : Prop :=
  ∀ b : BankIx, (s.bank b).mode ≠ .run → (s.bank b).mode ≠ .drain → (s.bank b).composed = 0

/-- Every descriptor is within its ranges and every lane's run and heat state within the values of R89. -/
def LaneInv (s : State) : Prop :=
  ∀ b : BankIx,
    (s.bank b).desc.inRange = true
      ∧ ∀ l ∈ (s.bank b).lanes.toList,
          l.onRun ≤ 255 ∧ l.holdLeft ≤ 15 ∧ l.recoveryLeft ≤ 255 ∧ l.heat ≤ 65535

end Sys2Proof.Machine
end

