-- ==== Sys2Proof/Certificates/Slice0/Obligations.lean ====
section
/-! DEFINITION. The statements for the provers. -/

section Statements

open Sys2Proof Sys2Proof.Machine

/-! ## The queue of commands, reset and power-on -/

/-- A step takes the command at the front of the queue and runs it on the state with the queue's rest. -/
def Obligations.StepRunsTheFrontCommand : Prop :=
  ∀ (c : Instr) (rest : List Instr) (s : State),
    step { s with pending := c :: rest } = exec c { s with pending := rest }

/-- The model's choice (log 2): with no command waiting the part idles. Every command answers a next state and leaves the
queue alone (log 23: no fault, no refusal). -/
def Obligations.EveryCommandAnswersNext : Prop :=
  (∀ s : State, s.pending = [] → step s = .next s)
    ∧ ∀ (c : Instr) (s : State), ∃ t, exec c s = .next t ∧ t.pending = s.pending

/-- RESETN_ASSERTED releases ALERT and holds the part; while it is held no command but POWER_ON and RESETN_ASSERTED changes
anything (R10, R182; the rest kept as it stands is the model's choice, log 10). -/
def Obligations.ResetAssertedHoldsThePart : Prop :=
  (∀ s : State,
      exec .resetnAsserted s = .next { s with inReset := true, mgmt := { s.mgmt with alert := false } })
    ∧ ∀ (c : Instr) (s : State), s.inReset = true → (∀ a e l, c ≠ .powerOn a e l) → c ≠ .resetnAsserted →
        exec c s = .next s

/-- POWER_ON: with STOPn deasserted every block is at the power-on values of the reset tables, whatever came before, and no
report of one block to another waits; with STOPn asserted the emergency stop is taken at once, as EMERGENCY_STOP takes it
(R134, R146). That the ports hold no transitions then (`signal`) is the model's choice, log 13. That an asserted STOPn is taken within this step
is the model's choice, log 8, and that the banks take FAULT with its flush, log 5. -/
def Obligations.PowerOnSetsEveryBlock : Prop :=
  (∀ (straps : BitVec 4) (enc : EncPair) (s : State),
      ∃ t, exec (.powerOn straps enc .deasserted) s = .next t
        ∧ t.pending = s.pending ∧ t.inReset = false
        ∧ t.nodeAddr.toNat = (if straps.toNat = 0 then 1 else straps.toNat)
        ∧ t.pos = ⟨enc, 0, 0, 0, 0, Vector.replicate 16 0, 0, .stalled, 0, 0, 500⟩
        ∧ t.intake = ⟨[], 0, ⟨0, 0, 0, 0, 0, 0, 0, 0, 0, 0, 0, 0⟩⟩
        ∧ t.cls.active = 0
        ∧ (∀ (k : Fin 2) (i : Fin 48), t.cls.sets[k].rules[i] =
            ⟨false, 0, 0, 0, 65535, 0, 0, 191, ⟨Vector.replicate 4 .none, 0, 0⟩⟩)
        ∧ (∀ k : Fin 2, t.cls.sets[k].dflt = ⟨Vector.replicate 4 .none, 0, 0⟩)
        ∧ (∀ (k : Fin 2) (i : Fin 49), t.cls.tallies[k][i] = 0)
        ∧ t.track = []
        ∧ (∀ b : BankIx,
            (t.bank b).desc =
                { kind := .disabled, node := 16, lanes := 128, laneBase := 0, sensorsPerLane := 1, spread := 0
                  reach := 0, leadUs := 0, pre := 0, post := 0, minSlots := 1, maxSlots := 255, recoverySlots := 0
                  longPolicy := .chop, conflict := .protectFirst, budget := 128, reserveBudget := 0
                  reservePriority := 7, airFeedHold := false, heatOn := 0, cool := 0, heatTrip := 65535
                  heatResume := 0 }
              ∧ (t.bank b).mode = .standby ∧ (t.bank b).windows = []
              ∧ (∀ i : Fin 128, (t.bank b).lanes[i] = ⟨0, 0, 0, 0, .normal⟩)
              ∧ (t.bank b).composed = 0 ∧ (t.bank b).latched = 0 ∧ (t.bank b).airLow = 0
              ∧ (t.bank b).inhibit = false ∧ (t.bank b).airReport = false ∧ (t.bank b).holdEnd = false
              ∧ (t.bank b).counters = ⟨0, 0, 0, 0, 0, 0, 0, 0, 0, 0, 0, 0, 0, 0⟩)
        ∧ t.station.mode = .standby ∧ t.station.portULinked = false ∧ t.station.airBanks = 0
        ∧ t.station.current = 0 ∧ t.station.closed = Vector.replicate 7 0 ∧ t.station.b = 0 ∧ t.station.band = 0
        ∧ t.station.bands = Vector.replicate 8 ⟨0, 0, 0⟩ ∧ t.station.entry = ⟨16, 16, 16, 0, 1500, 0, 20, 0⟩
        ∧ t.station.target = 0 ∧ t.station.setpoint = 0 ∧ t.station.splitter = 0
        ∧ t.station.holds = ⟨true, false, false, true, false, false⟩ ∧ t.station.command = .hold
        ∧ t.mc = ⟨.standby, .none, 0, none, none⟩
        ∧ (∀ p, (t.link p).state = .down ∧ (t.link p).locked = false ∧ (t.link p).partnerReady = false
            ∧ (t.link p).windowErrors = 0 ∧ (t.link p).lossRun = 0 ∧ (t.link p).warning = false
            ∧ (t.link p).signal = false)
        ∧ linkCounters t = List.replicate 15 0
        ∧ t.portU.queue = [] ∧ t.portU.tx = none
        ∧ t.portD.fire = Vector.replicate 4 none ∧ t.portD.drive = [] ∧ t.portD.relay = [] ∧ t.portD.tx = none
        ∧ t.proving = ⟨none, none⟩
        ∧ t.mgmt.queue = [] ∧ t.mgmt.flags = 0 ∧ t.mgmt.mask = BitVec.allOnes 15 ∧ t.mgmt.alert = false
        ∧ t.mgmt.line = ⟨500, 4096, 256, 65536, 16, 512, 8, 896, 640, 262144, 4096, 4, 0, 64⟩
        ∧ t.mgmt.softReset = .none ∧ t.stopn = .deasserted
        ∧ t.handed = ⟨[], [], [], 0, 0, 0, 0, [], [], [], [], 0, [], Vector.replicate 4 ⟨[], [], [], [], []⟩⟩)
    ∧ (∀ (straps : BitVec 4) (enc : EncPair) (s u : State), exec (.powerOn straps enc .deasserted) s = .next u →
      exec (.powerOn straps enc .asserted) s = exec .emergencyStop u)
    ∧ ∀ (straps : BitVec 4) (enc : EncPair) (s : State),
      ∃ t, exec (.powerOn straps enc .asserted) s = .next t
        ∧ t.mc.mode = .fault ∧ t.mc.cause = .estop ∧ t.track = [] ∧ t.mgmt.flags = BitVec.twoPow 15 14
        ∧ (∀ b, (t.bank b).mode = .fault ∧ (t.bankHanded b).modes = [])
        ∧ t.mgmt.alert = true ∧ t.portU.queue = [.own ⟨0, .notice, [14, 0, 0, 0, 0]⟩]

/-! ## Relations that every step keeps -/

/-- The state after reset meets every relation below. -/
def Obligations.ResetMeetsTheInvariants : Prop :=
  AlertInv State.reset ∧ FeederInv State.reset ∧ CauseInv State.reset ∧ QueueInv State.reset ∧ BurdenInv State.reset
    ∧ SpeedInv State.reset ∧ RotorInv State.reset ∧ BalanceInv State.reset ∧ TrackInv State.reset
    ∧ ImageInv State.reset ∧ LaneInv State.reset ∧ FreeLaneInv State.reset

/-- ALERT, the feeder command and the fault cause agree with what they are computed from, after every step (R182, R125,
R134). -/
def Obligations.StepKeepsAlertFeederAndCause : Prop :=
  (∀ s t : State, AlertInv s → step s = .next t → AlertInv t)
    ∧ (∀ s t : State, FeederInv s → step s = .next t → FeederInv t)
    ∧ ∀ s t : State, CauseInv s → step s = .next t → CauseInv t

/-- No queue outgrows its capacity, the arbiter holds one DRIVE frame of a station at most (R17, R162 to R164, R172), and an
answer that a SOFT RESET with the queue full keeps aside is the only one of its kind (the model's choice, log 12, on R179).
A lane carries a frame only while its port is LINKED (R154), and a free lane of a LINKED port has nothing waiting for it
(R163, R164): that the next frame starts in the very step that makes it possible is the model's choice, log 17. Nothing starts
on the return lane while a SOFT RESET is due (R170, R179; the model's choice, log 12). The port of a proving run in progress is
in PROVING (R155, R165, R169). -/
def Obligations.StepKeepsTheQueuesInCapacity : Prop :=
  (∀ s t : State, QueueInv s → step s = .next t → QueueInv t)
    ∧ ∀ s t : State, FreeLaneInv s → step s = .next t → FreeLaneInv t

/-- The burden ring, the speed and the rotor keep their relations (R113, R7, R9, R121, R122). -/
def Obligations.StepKeepsBurdenSpeedAndRotor : Prop :=
  (∀ s t : State, BurdenInv s → step s = .next t → BurdenInv t)
    ∧ (∀ s t : State, SpeedInv s → step s = .next t → SpeedInv t)
    ∧ ∀ s t : State, RotorInv s → step s = .next t → RotorInv t

/-- The balance of each bank's counters (R111). -/
def Obligations.StepKeepsTheBankBalance : Prop :=
  ∀ s t : State, BalanceInv s → step s = .next t → BalanceInv t

/-- The Item Track and the window lists stay in agreement (R29 to R32, R78). -/
def Obligations.StepKeepsTrackAndListsInAgreement : Prop :=
  ∀ s t : State, TrackInv s → step s = .next t → TrackInv t

/-- Images outside RUN and DRAIN, and the lane state within its values (R105, R89). -/
def Obligations.StepKeepsImagesAndLanes : Prop :=
  (∀ s t : State, ImageInv s → step s = .next t → ImageInv t)
    ∧ ∀ s t : State, LaneInv s → step s = .next t → LaneInv t

/-- But for POWER_ON, TP moves only by one count, at a FORWARD_COUNT, together with E (R4), and the node address does not
change (R161). -/
def Obligations.TrackPositionNeverDecreases : Prop :=
  ∀ (c : Instr) (s t : State), (∀ a e l, c ≠ .powerOn a e l) → exec c s = .next t →
    t.nodeAddr = s.nodeAddr
      ∧ (t.pos.tp = s.pos.tp ∨ (c = .forwardCount ∧ t.pos.tp = s.pos.tp + 1 ∧ t.pos.e = t.pos.tp))

/-! ## Shared operations: flags, the return queue, DRIVE and FIRE frames, changes of mode -/

/-- Raising a flag (R181, R182, R183): a set flag stays set and nothing changes; a clear one is set, ALERT is computed anew,
and when the flag is admitted one NOTICE frame to node 0 with the flag number and TP goes to the return queue, and on to a free
lane (`offerReturn`, opened by FreeLanesTakeTheNextFrame), or is dropped and counted when 8 frames wait there; nothing else
changes. The flags that one event raises are raised singly, each once, in the order of the table (R183), with its numbers
(R181). That a free lane starts the frame in the same step is the model's choice, log 17. -/
def Obligations.RaisingAFlagQueuesOneNotice : Prop :=
  (∀ (f : EventFlag) (s : State), s.mgmt.flags.getLsbD f.num = true → raise [f] s = s)
    ∧ (∀ (f : EventFlag) (s : State) (flags : BitVec 15) (u : State), s.mgmt.flags.getLsbD f.num = false →
        flags = s.mgmt.flags ||| BitVec.twoPow 15 f.num →
        u = { s with mgmt := { s.mgmt with flags := flags, alert := decide (flags &&& s.mgmt.mask ≠ 0) } } →
        (raise [f] s).mgmt.flags = flags
          ∧ (s.mgmt.mask.getLsbD f.num = false → raise [f] s = u)
          ∧ (s.mgmt.mask.getLsbD f.num = true → s.portU.queue.length < 8 →
              raise [f] s =
                offerReturn { u with portU := { s.portU with
                  queue := s.portU.queue ++
                    [.own ⟨0, .notice, [BitVec.ofNat 8 f.num, s.pos.tp.extractLsb' 24 8, s.pos.tp.extractLsb' 16 8,
                      s.pos.tp.extractLsb' 8 8, s.pos.tp.extractLsb' 0 8]⟩] } })
          ∧ (s.mgmt.mask.getLsbD f.num = true → 8 ≤ s.portU.queue.length →
              raise [f] s = { u with portU := { s.portU with returnDrops := satInc s.portU.returnDrops } }))
    ∧ (∀ s : State, raise [.detectRefused, .trackFull] s = raise [.detectRefused] (raise [.trackFull] s))
    ∧ ∀ table : List EventFlag,
      table = [.trackFull, .windowDrop, .detectRefused, .blind, .downlinkLost, .linkWarn, .relayDrop, .airLow, .coilTrip,
        .beltStall, .beltReverse, .encoder, .drained, .drainTimeout, .fault] →
      table.map EventFlag.num = List.range 15
        ∧ ∀ (fs : List EventFlag) (s : State),
          raise fs s = (table.filter fun f => decide (f ∈ fs)).foldl (fun t f => raise [f] t) s

/-- Answers (R173, R192, R193, R164): the numbers of the answer codes; an ANSWER frame to the source of the request, with its
tag, its request code and the answer code, joins the return queue and goes on to a free lane (`offerReturn`; in the same step,
log 17), or is dropped and counted when 8 frames wait there; nothing else changes. A request whose payload holds no byte is
answered with tag and request code 0, and one whose payload is its tag alone with that tag and request code 0 (R193). -/
def Obligations.AnswersJoinTheReturnQueue : Prop :=
  [AnswerCode.ok, .busy, .unknown, .range, .index, .mode, .notReady, .activeSet].map AnswerCode.num = List.range 8
    ∧ ∀ (src : NodeAddr) (payload : List Byte) (tag code : Byte) (a : Answer) (rest : List Request) (s : State),
    (payload = [] → tag = 0 ∧ code = 0) → (payload.length = 1 → payload = [tag] ∧ code = 0) →
    (2 ≤ payload.length → ∃ args, payload = tag :: code :: args) →
    (s.portU.queue.length < 8 →
      answered ⟨src, payload⟩ rest a s =
        offerReturn
          { s with
            mgmt := { s.mgmt with queue := rest }
            portU := { s.portU with
              queue := s.portU.queue ++
                [.own ⟨src, .answer, tag :: code :: BitVec.ofNat 8 a.code.num :: a.results⟩] } })
      ∧ (8 ≤ s.portU.queue.length →
        answered ⟨src, payload⟩ rest a s =
          { s with
            mgmt := { s.mgmt with queue := rest }
            portU := { s.portU with returnDrops := satInc s.portU.returnDrops } })

/-- Issuing a DRIVE frame (R131, R163): built only while Port D is LINKED, to the node of its station, with the present
value; it takes away the waiting frame of its station and joins the end, and the arbiter fills a free lane
(`offerForward`; in the same step, log 17). The hold-reason set and the feeder (R125): the command is HOLD exactly when the
set is non-empty, and a change of the command issues one DRIVE feeder frame. -/
def Obligations.DriveFramesAndTheFeederCommand : Prop :=
  (∀ (st : StationId) (s : State),
      ((s.link .d).state ≠ .linked → issueDrive st s = s)
        ∧ ((s.link .d).state = .linked →
          issueDrive st s =
            offerForward { s with portD := { s.portD with
                drive := s.portD.drive.filter (fun x => x.1 ≠ st) ++
                  [(st,
                    match st with
                    | .rotor =>
                      ⟨BitVec.ofNat 6 s.station.entry.rotorNode, .drive, 1 :: u16 s.station.setpoint⟩
                    | .splitter =>
                      ⟨BitVec.ofNat 6 s.station.entry.splitterNode, .drive, 2 :: u16 s.station.splitter⟩
                    | .feeder =>
                      ⟨BitVec.ofNat 6 s.station.entry.feederNode, .drive,
                        [3, 0, if s.station.command = .hold then 1 else 0]⟩)] } }))
    ∧ ∀ (h : HoldSet) (s : State),
      ∀ c : FeederCommand,
        (c = .hold ↔ (h.mode || h.occupancy || h.blind || h.actuator || h.air || h.operator) = true) →
          setHolds h s =
            (if c = s.station.command then { s with station := { s.station with holds := h, command := c } }
              else issueDrive .feeder { s with station := { s.station with holds := h, command := c } })

/-- The lanes of an image in a FIRE frame (R190, R191): lane k in byte 2 + k / 8, bit k mod 8; ceil(lanes / 8) lane bytes;
bits beyond the lane count 0. Which runs of bytes are frames (R160, R186, R187): at most 244 bytes, as many as the payload
length says, the right CRC, bit by bit, one of the seven kinds by its code, not for node 63, a DETECT in agreement with its
own contents. A frame that the part builds is its header, its payload and its CRC: bits 7 and 6 of both address bytes and the
flags 0, its own address as source (R186, R187); it is a frame, and reads back as built. The records of a DETECT payload, count and fields
(R188, R189). -/
def Obligations.FramesCarryWhatTheyAreBuiltFrom : Prop :=
  (∀ (node : Nat) (slot : BitVec 8) (lanes : Nat) (image : Image), 1 ≤ lanes → lanes ≤ 128 →
      (fireFrame node slot lanes image).payload.length = 2 + (lanes + 7) / 8
        ∧ (fireFrame node slot lanes image).payload.getD 0 0 = slot
        ∧ ((fireFrame node slot lanes image).payload.getD 1 0).toNat = lanes
        ∧ ∀ k, k < 8 * ((lanes + 7) / 8) →
            ((fireFrame node slot lanes image).payload.getD (2 + k / 8) 0).getLsbD (k % 8) =
              (decide (k < lanes) && image.getLsbD k))
    ∧ (∀ (bs : List Byte) (f : RxFrame), parseFrame bs = some f ↔
        bs.length = 6 + (bs.getD 3 0).toNat ∧ bs.length ≤ 244
          ∧ crc16 (bs.take (bs.length - 2)) = bs.getD (bs.length - 2) 0 ++ bs.getD (bs.length - 1) 0
          ∧ FrameKind.ofCode ((bs.getD 2 0).toNat % 16) = some f.kind
          ∧ f.dest = (bs.getD 0 0).setWidth 6 ∧ f.dest ≠ 63 ∧ f.src = (bs.getD 1 0).setWidth 6
          ∧ f.payload = (bs.drop 4).take (bs.length - 6)
          ∧ (f.kind = .detect → (detectRecords f.payload).isSome = true))
    ∧ (∀ (n : Nat) (k : FrameKind), FrameKind.ofCode n = some k ↔
        n = (match k with
          | .detect => 1
          | .request => 2
          | .answer => 3
          | .notice => 4
          | .fire => 5
          | .drive => 6
          | .status => 7))
    ∧ (crc16 [] = 0xFFFF#16 ∧ ∀ (bs : List Byte) (b : Byte), crc16 (bs ++ [b]) =
        [b.getLsbD 7, b.getLsbD 6, b.getLsbD 5, b.getLsbD 4, b.getLsbD 3, b.getLsbD 2, b.getLsbD 1, b.getLsbD 0].foldl
          (fun (c : BitVec 16) bit => if c.getLsbD 15 = bit then c <<< 1 else (c <<< 1) ^^^ 0x8005#16) (crc16 bs))
    ∧ (∀ (f : Frame) (addr : NodeAddr) (bs : List Byte), bs = f.wire addr →
        bs.length = 6 + f.payload.length ∧ (bs.drop 4).take f.payload.length = f.payload
          ∧ ((bs.getD 0 0).setWidth 6 = f.dest ∧ (bs.getD 0 0).getLsbD 6 = false ∧ (bs.getD 0 0).getLsbD 7 = false)
          ∧ ((bs.getD 1 0).setWidth 6 = addr ∧ (bs.getD 1 0).getLsbD 6 = false ∧ (bs.getD 1 0).getLsbD 7 = false)
          ∧ (FrameKind.ofCode ((bs.getD 2 0).toNat % 16) = some f.kind ∧ (bs.getD 2 0).toNat / 16 = 0)
          ∧ bs.getD 3 0 = BitVec.ofNat 8 f.payload.length
          ∧ crc16 (bs.take (4 + f.payload.length)) =
              bs.getD (4 + f.payload.length) 0 ++ bs.getD (5 + f.payload.length) 0)
    ∧ (∀ (f : Frame) (addr : NodeAddr), f.dest ≠ 63 → f.kind ≠ .detect → f.payload.length ≤ 238 →
        parseFrame (f.wire addr) = some ⟨f.dest, addr, f.kind, f.payload⟩)
    ∧ (∀ (payload : List Byte) (records : List Detection),
        detectRecords payload = some records ↔
          ∃ n rest, payload = n :: rest ∧ 1 ≤ n.toNat ∧ n.toNat ≤ 8 ∧ parseRecords n.toNat rest = some records)
    ∧ (∀ (bs : List Byte) (records : List Detection), parseRecords 0 bs = some records ↔ bs = [] ∧ records = [])
    ∧ (∀ (n : Nat) (bs : List Byte) (records : List Detection), parseRecords (n + 1) bs = some records ↔
        ∃ r rest more, parseRecord bs = some (r, rest) ∧ parseRecords n rest = some more ∧ records = r :: more)
    ∧ ∀ (bs : List Byte) (presence : Byte) (size tagAt : Nat), presence = bs.getD 0 0 →
        tagAt = 16 + (if presence.getLsbD 0 then 1 else 0) → size = tagAt + (if presence.getLsbD 1 then 4 else 0) →
        (bs.length < size → parseRecord bs = none)
          ∧ (size ≤ bs.length → ∃ r : Detection, parseRecord bs = some (r, bs.drop size)
            ∧ r.laneLo = (bs.getD 1 0).toNat ∧ r.laneHi = (bs.getD 2 0).toNat
            ∧ r.leadPos = bs.getD 3 0 ++ bs.getD 4 0 ++ bs.getD 5 0 ++ bs.getD 6 0
            ∧ r.trailPos = bs.getD 7 0 ++ bs.getD 8 0 ++ bs.getD 9 0 ++ bs.getD 10 0
            ∧ r.cls = bs.getD 11 0 ++ bs.getD 12 0 ∧ r.area = (bs.getD 13 0 ++ bs.getD 14 0 : BitVec 16).toNat
            ∧ r.confidence = (bs.getD 15 0).toNat
            ∧ r.centroid = (if presence.getLsbD 0 then some (bs.getD 16 0).toNat else none)
            ∧ r.tag = (if presence.getLsbD 1 then
                some (bs.getD tagAt 0 ++ bs.getD (tagAt + 1) 0 ++ bs.getD (tagAt + 2) 0 ++ bs.getD (tagAt + 3) 0)
              else none)
            ∧ r.touching = presence.getLsbD 2 ∧ r.atEdge = presence.getLsbD 3)

/-- Changes of mode (R135). One that comes with no flush is handed to each Bank Unit and to the Station Controller. One that
comes with a flush (R33, R108), into STANDBY or FAULT, empties the track and every list, its windows ABANDONED; each Bank Unit
takes the mode with the flush, its composed image all-off and the runs and holds of the lanes that image held ON cut (R105),
and no change waits for it any longer; the count of 0 is reported to the Station Controller (R35) and not to the Mode
Controller (R140), and what the Intake, the Classifier, the Station Controller, the ports, the proving run and the Management
Engine hold, with every other report under way, is as it was; a boundary after the flush composes all-off, with the empty list. Entry into FAULT (R148)
is such a change, with the cause. That the Bank Units take the mode in the step of the flush, and changes handed to them
before it with it, is the model's choice, log 5. -/
def Obligations.ChangesOfModeAreHandedOn : Prop :=
  (∀ (m : Mode) (s : State),
      (changeMode m s).mc = { s.mc with mode := m }
        ∧ (changeMode m s).handed.stationModes = s.handed.stationModes ++ [m]
        ∧ (∀ b, (changeMode m s).bankHanded b = { s.bankHanded b with modes := (s.bankHanded b).modes ++ [m] })
        ∧ (changeMode m s).banks = s.banks ∧ (changeMode m s).station = s.station ∧ (changeMode m s).pos = s.pos
        ∧ (changeMode m s).track = s.track ∧ (changeMode m s).mgmt = s.mgmt ∧ (changeMode m s).portU = s.portU
        ∧ (changeMode m s).portD = s.portD
        ∧ changeMode m s = { s with
            mc := { s.mc with mode := m }
            handed := { s.handed with
              stationModes := s.handed.stationModes ++ [m], banks := (changeMode m s).handed.banks } })
    ∧ (∀ (m : Mode) (s t : State), (m = .standby ∨ m = .fault) → t = flushInto m s →
        t.mc = { s.mc with mode := m } ∧ t.track = []
          ∧ (∀ b, (t.bank b).windows = []
              ∧ (t.bank b).counters.abandoned.toNat =
                  min ((s.bank b).counters.abandoned.toNat + (s.bank b).windows.length) 4294967295
              ∧ (t.bank b).mode = m ∧ (t.bank b).composed = 0 ∧ (t.bank b).latched = (s.bank b).latched
              ∧ (t.bank b).desc = (s.bank b).desc ∧ (t.bank b).inhibit = (s.bank b).inhibit
              ∧ (t.bank b).airLow = (s.bank b).airLow
              ∧ ∀ i : Fin 128, (t.bank b).lanes[i] =
                  if (s.bank b).composed.getLsbD i.val = true then
                    { (s.bank b).lanes[i] with onRun := 0, holdLeft := 0 }
                  else (s.bank b).lanes[i])
          ∧ t.handed.stationModes = s.handed.stationModes ++ [m]
          ∧ (∀ b, t.bankHanded b = { s.bankHanded b with retired := [], modes := [] })
          ∧ t.pos = s.pos ∧ t.station = s.station ∧ t.mgmt = s.mgmt ∧ t.portU = s.portU ∧ t.portD = s.portD
          ∧ (s.mgmt.line.occLow < s.mgmt.line.occHigh → t.handed.occupancy = s.handed.occupancy ++ [false])
          ∧ t.handed.trackEmpty = s.handed.trackEmpty
          ∧ (∀ b, (t.bank b).counters = { (s.bank b).counters with abandoned := (t.bank b).counters.abandoned }
              ∧ (t.bank b).airReport = (s.bank b).airReport ∧ (t.bank b).holdEnd = (s.bank b).holdEnd)
          ∧ t = { s with
              mc := t.mc, track := [], banks := t.banks
              handed := { s.handed with
                occupancy := t.handed.occupancy, stationModes := t.handed.stationModes, banks := t.handed.banks } }
          ∧ ∀ (b : BankIx) (n : BitVec 8) (rest : List (BitVec 8)), s.inReset = false →
              (s.bank b).desc.kind ≠ .disabled → (s.bankHanded b).boundaries = n :: rest →
              ∃ u, exec (.slotBoundary (.bank b)) t = .next u
                ∧ (u.bank b).mode = m ∧ (u.bank b).windows = [] ∧ (u.bank b).composed = 0 ∧ (u.bank b).latched = 0
                ∧ (u.bankHanded b).retired = [])
    ∧ ∀ (cause : FaultCause) (s : State),
        faultEntry cause s = flushInto .fault { s with mc := { s.mc with cause := cause } }

/-! ## The belt -/

/-- FORWARD_COUNT (R1, R3, R4, R6, R114), REVERSE_COUNT (R1, R3, R5) and ILLEGAL_TRANSITION (R1, R2). -/
def Obligations.EncoderTransitionsMoveTheBelt : Prop :=
  (∀ s : State, s.inReset = false →
      (s.pos.e = s.pos.tp →
        exec .forwardCount s = .next
          { s with
            pos := { s.pos with
              stored := ⟨!s.pos.stored.b, s.pos.stored.a⟩
              e := s.pos.e + 1
              tp := s.pos.tp + 1
              bin := min (s.pos.bin + 1) 65535 }
            handed := { s.handed with
              ring := if (s.pos.tp + 1).toNat % s.mgmt.line.segLen = 0 then s.handed.ring + 1 else s.handed.ring } })
        ∧ (s.pos.e ≠ s.pos.tp →
          exec .forwardCount s = .next
            { s with pos := { s.pos with stored := ⟨!s.pos.stored.b, s.pos.stored.a⟩, e := s.pos.e + 1 } }))
    ∧ (∀ s : State, s.inReset = false →
      ((s.pos.tp - (s.pos.e - 1)).toNat ≤ s.mgmt.line.reverseLimit →
        exec .reverseCount s = .next
          { s with pos := { s.pos with stored := ⟨s.pos.stored.b, !s.pos.stored.a⟩, e := s.pos.e - 1 } })
        ∧ (s.mgmt.line.reverseLimit < (s.pos.tp - (s.pos.e - 1)).toNat →
          exec .reverseCount s = .next
            (raise [.beltReverse]
              { s with
                pos := { s.pos with stored := ⟨s.pos.stored.b, !s.pos.stored.a⟩, e := s.pos.e - 1 }
                handed := { s.handed with reversal := s.handed.reversal + 1 } })))
    ∧ ∀ s : State, s.inReset = false →
      exec .illegalTransition s = .next
        { s with
          pos := { s.pos with
            stored := ⟨!s.pos.stored.a, !s.pos.stored.b⟩
            illegal := min (s.pos.illegal + 1) 255 }
          handed := { s.handed with
            encoder := if s.mgmt.line.encFaultLimit ≤ min (s.pos.illegal + 1) 255 then s.handed.encoder + 1
              else s.handed.encoder } }

/-- BIN_CLOSE (R7, R8, R9). -/
def Obligations.BinCloseSetsSpeedStallAndCounts : Prop :=
  ∀ (s : State) (h : Vector Nat 16) (w : Nat) (stall : StallState), s.inReset = false →
    (∀ i : Fin 16, h[i] = if i.val = 0 then s.pos.bin else s.pos.history.toList.getD (i.val - 1) 0) →
    w = min h.toList.sum 65535 →
    (stall = .stalled ↔ w < s.mgmt.line.stallW) →
      exec .binClose s = .next
        (if s.pos.stall = .moving ∧ stall = .stalled ∧ s.mc.mode = .run then
          raise [.beltStall]
            { s with pos := { s.pos with
                bin := 0, history := h, w := w, stall := stall, c := (s.mgmt.line.slotUs * w + 8000) / 16000 } }
        else
          { s with pos := { s.pos with
              bin := 0, history := h, w := w, stall := stall, c := (s.mgmt.line.slotUs * w + 8000) / 16000 } })

/-! ## Detections and the Item Track -/

/-- DETECT_FRAME (R17): the oldest frame handed on is held and counted, or dropped with DETECT_REFUSED when 4 are
held. Frames wait first in, first out (log 3). -/
def Obligations.DetectFrameIsHeldOrDropped : Prop :=
  ∀ (s : State) (f : List Detection) (rest : List (List Detection)), s.inReset = false → s.handed.detects = f :: rest →
    (s.intake.held.length < 4 →
      exec .detectFrame s = .next
        { s with
          handed := { s.handed with detects := rest }
          intake := { s.intake with
            held := s.intake.held ++ [f]
            counters := { s.intake.counters with frames := satInc s.intake.counters.frames } } })
      ∧ (4 ≤ s.intake.held.length →
        exec .detectFrame s = .next
          (raise [.detectRefused]
            { s with
              handed := { s.handed with detects := rest }
              intake := { s.intake with
                counters := { s.intake.counters with framesDropped := satInc s.intake.counters.framesDropped } } }))

/-- DETECT_RECORD, the refusals before classification in their order (R19 to R25): MODE, MALFORMED, STALE, SKEW. The lane
clamp and the length clip are counted once the record is well formed. -/
def Obligations.DetectRecordRefusals : Prop :=
  ∀ (s : State) (r : Detection) (more : List Detection) (frames : List (List Detection)) (trail : Pos)
    (seen clamped : IntakeCounters),
    s.inReset = false → s.intake.held = (r :: more) :: frames →
    seen = { s.intake.counters with records := satInc s.intake.counters.records } →
    trail = (if (s.mgmt.line.maxItemLen : Int) < sdiff r.trailPos r.leadPos
      then r.leadPos + BitVec.ofNat 32 s.mgmt.line.maxItemLen else r.trailPos) →
    clamped = { seen with
      laneClamped := if 191 < r.laneHi then satInc seen.laneClamped else seen.laneClamped
      clipped := if (s.mgmt.line.maxItemLen : Int) < sdiff r.trailPos r.leadPos then satInc seen.clipped
        else seen.clipped } →
    ∀ held, held = (if more = [] then frames else more :: frames) →
      (s.mc.mode ≠ .run →
        exec .detectRecord s = .next
          (raise [.detectRefused]
            { s with intake :=
              { s.intake with held := held, counters := { seen with refusedMode := satInc seen.refusedMode } } }))
        ∧ (s.mc.mode = .run → (r.laneHi < r.laneLo ∨ 191 < r.laneLo ∨ sdiff r.trailPos r.leadPos < 0) →
          exec .detectRecord s = .next
            (raise [.detectRefused]
              { s with intake :=
                { s.intake with
                  held := held, counters := { seen with refusedMalformed := satInc seen.refusedMalformed } } }))
        ∧ (s.mc.mode = .run → ¬ (r.laneHi < r.laneLo ∨ 191 < r.laneLo ∨ sdiff r.trailPos r.leadPos < 0) →
          (s.mgmt.line.staleLimit : Int) < sdiff s.pos.tp trail →
          exec .detectRecord s = .next
            (raise [.detectRefused]
              { s with intake :=
                { s.intake with
                  held := held, counters := { clamped with refusedStale := satInc clamped.refusedStale } } }))
        ∧ (s.mc.mode = .run → ¬ (r.laneHi < r.laneLo ∨ 191 < r.laneLo ∨ sdiff r.trailPos r.leadPos < 0) →
          sdiff s.pos.tp trail ≤ (s.mgmt.line.staleLimit : Int) →
          (s.mgmt.line.skewLimit : Int) < sdiff trail s.pos.tp →
          exec .detectRecord s = .next
            (raise [.detectRefused]
              { s with intake :=
                { s.intake with
                  held := held, counters := { clamped with refusedSkew := satInc clamped.refusedSkew } } }))

/-- DETECT_RECORD past its checks (R26 to R31, R35, R37, R43, R45, R49, R75): the record leaves its frame; the counters of
records, clamped lanes and clipped lengths and the one of the verdict; the winning rule's tally, the burden contribution;
and the ninth step: OVERFLOW, ENTERED or PASSED. A LISTED window enters its list as the record of R75: the item's id, the
planned kind, lanes, positions and TRIMMED, the rule's priority, WAITING, and the rest 0, clear or empty. An entry reports the occupancy it reaches. A flag changes only at an
OVERFLOW or a DROPPED window, with its NOTICE (`raise`, opened by RaisingAFlagQueuesOneNotice). The window list of a bank changes only by a LISTED window; what the Position Unit, the
Station Controller, the Mode Controller, Port D and the ports' links hold does not change, nor does any report under way but
the contribution and the occupancy. -/
def Obligations.DetectRecordEntersOrPasses : Prop :=
  ∀ (s : State) (r : Detection) (more : List Detection) (frames : List (List Detection)) (trail : Pos) (w : Winner)
    (counts : IntakeCounters),
    s.inReset = false → s.intake.held = (r :: more) :: frames → s.mc.mode = .run →
    ¬ (r.laneHi < r.laneLo ∨ 191 < r.laneLo ∨ sdiff r.trailPos r.leadPos < 0) →
    trail = (if (s.mgmt.line.maxItemLen : Int) < sdiff r.trailPos r.leadPos
      then r.leadPos + BitVec.ofNat 32 s.mgmt.line.maxItemLen else r.trailPos) →
    sdiff s.pos.tp trail ≤ (s.mgmt.line.staleLimit : Int) → sdiff trail s.pos.tp ≤ (s.mgmt.line.skewLimit : Int) →
    counts = { s.intake.counters with
      records := satInc s.intake.counters.records
      laneClamped := if 191 < r.laneHi then satInc s.intake.counters.laneClamped else s.intake.counters.laneClamped
      clipped := if (s.mgmt.line.maxItemLen : Int) < sdiff r.trailPos r.leadPos then satInc s.intake.counters.clipped
        else s.intake.counters.clipped } →
    ∀ centroid : Nat,
    centroid = (match r.centroid with
      | some c => clamp c r.laneLo (min r.laneHi 191)
      | none => (r.laneLo + min r.laneHi 191) / 2) →
    w = s.cls.winner r.cls r.area r.confidence centroid →
    ∀ p : BankIx → Plan,
    (∀ b, p b = plan (s.bank b).desc w.result.actions[b] r.laneLo (min r.laneHi 191) r.leadPos trail s.pos.tp s.pos.w
      s.pos.c (s.bank b).windows.length) →
    ∃ t, exec .detectRecord s = .next t
      ∧ t.intake.held = (if more = [] then frames else more :: frames)
      ∧ t.handed.burden = s.handed.burden ++ [r.area * w.result.burdenWeight]
      ∧ (∀ (k : Fin 2) (i : Fin 49), t.cls.tallies[k][i] =
          if k = w.set ∧ i = w.index then satInc s.cls.tallies[k][i] else s.cls.tallies[k][i])
      ∧ t.cls.sets = s.cls.sets ∧ t.cls.active = s.cls.active
      ∧ t.pos = s.pos ∧ t.station = s.station ∧ t.mc = s.mc ∧ t.portD = s.portD ∧ t.portU.link = s.portU.link
      ∧ t.proving = s.proving
      ∧ t = { s with
          intake := t.intake, cls := t.cls, track := t.track, banks := t.banks, portU := t.portU, mgmt := t.mgmt
          handed := { s.handed with burden := t.handed.burden, occupancy := t.handed.occupancy } }
      ∧ ((∃ b kind q, p b = .listed kind q) → 1024 ≤ s.track.length →
          t.track = s.track ∧ t.banks = s.banks ∧ t.intake.nextId = s.intake.nextId
            ∧ t.intake.counters = { counts with refusedOverflow := satInc counts.refusedOverflow }
            ∧ t.handed.occupancy = s.handed.occupancy
            ∧ t.mgmt.flags = s.mgmt.flags ||| BitVec.twoPow 15 0 ||| BitVec.twoPow 15 2
            ∧ t.mgmt = (raise [.trackFull, .detectRefused] s).mgmt ∧ t.portU = (raise [.trackFull, .detectRefused] s).portU)
      ∧ ((∃ b kind q, p b = .listed kind q) → s.track.length < 1024 →
          ∃ item : Item, t.track = s.track ++ [item]
            ∧ item.id = freeId s.track s.track.length s.intake.nextId ∧ t.intake.nextId = item.id + 1
            ∧ item.entryPos = s.pos.tp ∧ item.laneLo = r.laneLo ∧ item.laneHi = min r.laneHi 191
            ∧ item.centroid = centroid ∧ item.centroidSent = r.centroid.isSome
            ∧ item.leadPos = r.leadPos ∧ item.trailPos = trail ∧ item.cls = r.cls ∧ item.area = r.area
            ∧ item.confidence = r.confidence ∧ item.tag = r.tag ∧ item.touching = r.touching
            ∧ item.atEdge = r.atEdge
            ∧ item.clipped = decide ((s.mgmt.line.maxItemLen : Int) < sdiff r.trailPos r.leadPos)
            ∧ item.recipeSet = w.set ∧ item.rule = w.index.val
            ∧ (∀ b : BankIx, item.pendingBanks.getLsbD b.val = true ↔ ∃ kind q, p b = .listed kind q)
            ∧ t.intake.counters = { counts with entered := satInc counts.entered }
            ∧ t.handed.occupancy = s.handed.occupancy ++
                (if s.mgmt.line.occHigh ≤ s.track.length + 1 then [true]
                  else if s.track.length + 1 ≤ s.mgmt.line.occLow then [false] else [])
            ∧ (∀ b kind q, p b = .listed kind q →
                t.bank b = { s.bank b with
                  windows := insertWindow
                    { item := item.id, kind := kind, lo := q.lo, hi := q.hi, openPos := q.openPos, closePos := q.closePos
                      priority := w.result.priority, state := .waiting, trimmed := q.trimmed, due := 0, full := 0
                      any := 0, protectDenied := false, truncated := 0 }
                    (s.bank b).windows
                  counters := { (s.bank b).counters with created := satInc (s.bank b).counters.created } }))
      ∧ ((∀ b kind q, p b ≠ .listed kind q) →
          t.track = s.track ∧ t.intake.nextId = s.intake.nextId
            ∧ t.intake.counters = { counts with passed := satInc counts.passed }
            ∧ t.handed.occupancy = s.handed.occupancy)
      ∧ ((∀ b kind q, p b ≠ .listed kind q) ∨ s.track.length < 1024 →
          ((∃ b, p b = .dropped) → t.mgmt.flags = s.mgmt.flags ||| BitVec.twoPow 15 1
              ∧ t.mgmt = (raise [.windowDrop] s).mgmt ∧ t.portU = (raise [.windowDrop] s).portU)
            ∧ ((∀ b, p b ≠ .dropped) → t.mgmt = s.mgmt ∧ t.portU = s.portU)
            ∧ ∀ b,
              (p b = .none → t.bank b = s.bank b)
                ∧ (p b = .uncovered → t.bank b = { s.bank b with counters :=
                    { (s.bank b).counters with uncovered := satInc (s.bank b).counters.uncovered } })
                ∧ (p b = .late → t.bank b = { s.bank b with counters :=
                    { (s.bank b).counters with
                      created := satInc (s.bank b).counters.created, late := satInc (s.bank b).counters.late } })
                ∧ (p b = .dropped → t.bank b = { s.bank b with counters :=
                    { (s.bank b).counters with
                      created := satInc (s.bank b).counters.created
                      dropped := satInc (s.bank b).counters.dropped } }))

/-- The five conditions of a match (R42), and the first matching rule of the active set or its default rule (R43). -/
def Obligations.FirstMatchingRuleWins : Prop :=
  (∀ (r : Rule) (cls : BitVec 16) (area confidence centroid : Nat),
      r.matches cls area confidence centroid = true ↔
        r.enabled = true ∧ cls &&& r.classMask = r.classValue ∧ (r.areaMin ≤ area ∧ area ≤ r.areaMax)
          ∧ r.confMin ≤ confidence ∧ (r.zoneLo ≤ centroid ∧ centroid ≤ r.zoneHi))
    ∧ (∀ (c : Classifier) (cls : BitVec 16) (area confidence centroid : Nat) (i : Fin 48),
        (∀ j : Fin 48, j < i → c.sets[c.active].rules[j].matches cls area confidence centroid = false) →
        c.sets[c.active].rules[i].matches cls area confidence centroid = true →
          c.winner cls area confidence centroid = ⟨c.active, i.castSucc, c.sets[c.active].rules[i].result⟩)
    ∧ ∀ (c : Classifier) (cls : BitVec 16) (area confidence centroid : Nat),
        (∀ j : Fin 48, c.sets[c.active].rules[j].matches cls area confidence centroid = false) →
          c.winner cls area confidence centroid = ⟨c.active, 48, c.sets[c.active].dflt⟩

/-- The id a record takes is the next-id value, or the first value upward from it, modulo 65,536, that no item of the track
holds (R30); a new window goes after every window whose open_pos is not ahead of its own, when the list stands in order (R77). -/
def Obligations.EntriesTakeAFreeIdAndTheirPlace : Prop :=
  (∀ (items : List Item) (next : BitVec 16), items.length ≤ 1024 →
      freeId items items.length next ∉ items.map (·.id)
        ∧ (next ∉ items.map (·.id) → freeId items items.length next = next)
        ∧ ∃ k : Nat, k ≤ items.length ∧ freeId items items.length next = next + BitVec.ofNat 16 k
          ∧ ∀ j : Nat, j < k → next + BitVec.ofNat 16 j ∈ items.map (·.id))
    ∧ ∀ (w : Window) (before after : List Window),
      (∀ x ∈ before, sdiff x.openPos w.openPos ≤ 0) → (∀ x ∈ after, 0 < sdiff x.openPos w.openPos) →
        insertWindow w (before ++ after) = before ++ w :: after

/-- RETIREMENT_REPORT (R32, R35, R140): the item leaves the track, or keeps its other banks; the count reported to the Station
Controller, and to the Mode Controller when it falls to 0; nothing else changes. Reports wait first in, first out (log 3). -/
def Obligations.RetirementReportsLeaveTheTrack : Prop :=
  ∀ (s : State) (b : BankIx) (id : BitVec 16) (rest : List (BitVec 16)),
    s.inReset = false → (s.bankHanded b).retired = id :: rest → (s.track.map (·.id)).Nodup →
    s.mgmt.line.occLow < s.mgmt.line.occHigh →
    ∃ t, exec (.retirementReport b) s = .next t
      ∧ (t.bankHanded b).retired = rest ∧ t.banks = s.banks ∧ t.mc = s.mc ∧ t.station = s.station ∧ t.pos = s.pos
      ∧ t.mgmt = s.mgmt ∧ t.portU = s.portU ∧ t.portD = s.portD
      ∧ (∀ c, t.bankHanded c = { s.bankHanded c with retired := if c = b then rest else (s.bankHanded c).retired })
      ∧ t = { s with
          track := t.track
          handed := { s.handed with
            occupancy := t.handed.occupancy, trackEmpty := t.handed.trackEmpty, banks := t.handed.banks } }
      ∧ (∀ i ∈ s.track, i.id = id → i.pendingBanks = BitVec.twoPow 4 b.val →
          t.track = s.track.filter (fun j => j.id ≠ id)
            ∧ (s.mgmt.line.occHigh ≤ t.track.length → t.handed.occupancy = s.handed.occupancy ++ [true])
            ∧ (t.track.length ≤ s.mgmt.line.occLow → t.handed.occupancy = s.handed.occupancy ++ [false])
            ∧ (s.mgmt.line.occLow < t.track.length → t.track.length < s.mgmt.line.occHigh →
                t.handed.occupancy = s.handed.occupancy)
            ∧ t.handed.trackEmpty = s.handed.trackEmpty + (if t.track = [] then 1 else 0))
      ∧ (∀ i ∈ s.track, i.id = id → i.pendingBanks.getLsbD b.val = true → i.pendingBanks ≠ BitVec.twoPow 4 b.val →
          t.track = s.track.map (fun j =>
              if j.id = id then { j with pendingBanks := j.pendingBanks &&& ~~~(BitVec.twoPow 4 b.val) } else j)
            ∧ t.handed.occupancy = s.handed.occupancy ∧ t.handed.trackEmpty = s.handed.trackEmpty)
      ∧ ((∀ i ∈ s.track, i.id = id → i.pendingBanks.getLsbD b.val = false) →
          t.track = s.track ∧ t.handed.occupancy = s.handed.occupancy ∧ t.handed.trackEmpty = s.handed.trackEmpty)

/-! ## The Window Planner -/

/-- The lane map (R66, R67). -/
def Obligations.LaneMapOfAPiece : Prop :=
  ∀ (d : BankEntry) (laneLo laneHi : Nat), 1 ≤ d.sensorsPerLane → 1 ≤ d.lanes → laneLo ≤ laneHi →
    (uncovered d laneLo laneHi = true ↔
        laneHi < d.laneBase ∨ (d.laneBase ≤ laneLo ∧ d.lanes ≤ (laneLo - d.laneBase) / d.sensorsPerLane))
      ∧ (uncovered d laneLo laneHi = false →
          actLo d laneLo = (max laneLo d.laneBase - d.laneBase) / d.sensorsPerLane - d.spread
            ∧ actHi d laneHi = min ((laneHi - d.laneBase) / d.sensorsPerLane + d.spread) (d.lanes - 1)
            ∧ actLo d laneLo ≤ actHi d laneHi ∧ actHi d laneHi ≤ d.lanes - 1)

/-- The lead in counts (R68) and the positions of a window (R69): open_pos and close_pos modulo 2^32, and close_pos never
behind open_pos for a piece of at most 65,535 counts and margins of at most 1,023. -/
def Obligations.LeadAndWindowPositions : Prop :=
  (∀ (d : BankEntry) (w : Nat),
      leadCounts d w = (d.leadUs * w + 8000) / 16000
        ∧ (d.leadUs ≤ 20000 → w ≤ 65535 → d.leadUs * w + 8000 < 2 ^ 32 ∧ leadCounts d w ≤ 81919)
        ∧ leadCounts d 0 = 0 ∧ (d.leadUs = 0 → leadCounts d w = 0))
    ∧ ∀ (d : BankEntry) (w : Nat) (lead trail : Pos),
      openPosition d w lead = lead + BitVec.ofNat 32 d.reach - BitVec.ofNat 32 (leadCounts d w) - BitVec.ofNat 32 d.pre
        ∧ closePosition d w trail =
            trail + BitVec.ofNat 32 d.reach - BitVec.ofNat 32 (leadCounts d w) + BitVec.ofNat 32 d.post
        ∧ (d.pre ≤ 1023 → d.post ≤ 1023 → 0 ≤ sdiff trail lead → sdiff trail lead ≤ 65535 →
            sdiff (closePosition d w trail) (openPosition d w lead) = sdiff trail lead + d.pre + d.post
              ∧ 0 ≤ sdiff (closePosition d w trail) (openPosition d w lead)
              ∧ sdiff (closePosition d w trail) (openPosition d w lead) ≤ 67581)

/-- The planning verdicts in their order (R27, R65, R72, R73, R74). -/
def Obligations.PlanningVerdictsInOrder : Prop :=
  ∀ (d : BankEntry) (act : Action) (laneLo laneHi : Nat) (lead trail tp : Pos) (w c len : Nat) (op cl : Pos),
    op = openPosition d w lead → cl = closePosition d w trail →
    ((d.kind = .disabled ∨ act = .none) → plan d act laneLo laneHi lead trail tp w c len = .none)
      ∧ (d.kind ≠ .disabled → act ≠ .none →
        (uncovered d laneLo laneHi = true → plan d act laneLo laneHi lead trail tp w c len = .uncovered)
          ∧ (uncovered d laneLo laneHi = false →
            (sdiff cl (tp + BitVec.ofNat 32 c) ≤ 0 → plan d act laneLo laneHi lead trail tp w c len = .late)
              ∧ (0 < sdiff cl (tp + BitVec.ofNat 32 c) →
                (512 ≤ len → plan d act laneLo laneHi lead trail tp w c len = .dropped)
                  ∧ (len < 512 → plan d act laneLo laneHi lead trail tp w c len =
                      .listed (if act = .eject then .eject else .protect)
                        ⟨actLo d laneLo, actHi d laneHi, op, cl,
                          decide (sdiff op (tp + BitVec.ofNat 32 c) < 0)⟩))))

/-! ## The Bank Units -/

/-- SLOT_BOUNDARY at the Position Unit (R11, R12): the slot number advances by one modulo 256, the next slot has the
length slot_us, and the boundary is handed to each of the four Bank Units. A DISABLED bank that takes one (R109) sends
no frame, has both images all-off, counts its hold down, a hold that reaches 0 there ending (R101), and keeps its lanes and
list. That a boundary waits for each bank to take it is the model's choice, log 4; that the end of a hold (`holdEnd`) waits for
AIR_LOW_HOLD_END is the table's, log 19. -/
def Obligations.SlotClockAndDisabledBanks : Prop :=
  (∀ s : State, s.inReset = false →
      ∃ t, exec (.slotBoundary .clock) s = .next t
        ∧ t.pos = { s.pos with slot := s.pos.slot + 1, slotLen := s.mgmt.line.slotUs }
        ∧ (∀ b, t.bankHanded b =
            { s.bankHanded b with boundaries := (s.bankHanded b).boundaries ++ [s.pos.slot + 1] })
        ∧ t.banks = s.banks ∧ t.station = s.station ∧ t.mc = s.mc ∧ t.track = s.track ∧ t.portU = s.portU
        ∧ t.portD = s.portD ∧ t.mgmt = s.mgmt ∧ t.handed.ring = s.handed.ring
        ∧ t = { s with pos := t.pos, handed := { s.handed with banks := t.handed.banks } })
    ∧ ∀ (s : State) (b : BankIx) (n : BitVec 8) (rest : List (BitVec 8)),
      s.inReset = false → (s.bank b).desc.kind = .disabled → (s.bankHanded b).boundaries = n :: rest →
      ∃ t, exec (.slotBoundary (.bank b)) s = .next t
        ∧ (t.bank b).composed = 0 ∧ (t.bank b).latched = 0 ∧ (t.bank b).airLow = (s.bank b).airLow - 1
        ∧ (t.bank b).lanes = (s.bank b).lanes ∧ (t.bank b).windows = (s.bank b).windows
        ∧ (t.bank b).desc = (s.bank b).desc ∧ (t.bank b).counters = (s.bank b).counters
        ∧ (t.bank b).inhibit = (s.bank b).inhibit
        ∧ t.bankHanded b = { s.bankHanded b with boundaries := rest }
        ∧ t.portD = s.portD ∧ t.portU = s.portU ∧ t.mgmt = s.mgmt ∧ SameOutsideBank b s t
        ∧ (t.bank b).holdEnd = ((s.bank b).holdEnd || decide ((s.bank b).airLow = 1))
        ∧ (t.bank b).mode = (s.bank b).mode ∧ (t.bank b).airReport = (s.bank b).airReport

/-- SLOT_BOUNDARY at a bank in use, steps 1 and 5 and what the boundary leaves alone (R82, R83, R101, R163): the hold counts
down, and one that reaches 0 ends (`holdEnd`, with which AIR_LOW_HOLD_END withdraws the AIR report; log 19); the composed image becomes
the latched one; while Port D is LINKED a FIRE frame of it is handed to the arbiter, where it waits for a busy lane, a frame
it replaces counted, and goes on a free one at once (log 17). FreeLaneInv leaves no other case in LINKED. -/
def Obligations.BoundaryLatchesAndSends : Prop :=
  ∀ (s : State) (b : BankIx) (n : BitVec 8) (rest : List (BitVec 8)),
    s.inReset = false → (s.bank b).desc.kind ≠ .disabled → (s.bankHanded b).boundaries = n :: rest →
    ∃ t, exec (.slotBoundary (.bank b)) s = .next t
      ∧ (t.bank b).latched = (s.bank b).composed
      ∧ (t.bankHanded b).boundaries = rest ∧ (t.bankHanded b).modes = (s.bankHanded b).modes
      ∧ (t.bankHanded b).status = (s.bankHanded b).status ∧ (t.bankHanded b).air = (s.bankHanded b).air
      ∧ (t.bank b).desc = (s.bank b).desc ∧ (t.bank b).mode = (s.bank b).mode
      ∧ (t.bank b).inhibit = (s.bank b).inhibit ∧ (t.bank b).airReport = (s.bank b).airReport
      ∧ (t.bank b).airLow = (s.bank b).airLow - 1
      ∧ (t.bank b).holdEnd = ((s.bank b).holdEnd || decide ((s.bank b).airLow = 1))
      ∧ SameOutsideBank b s t
      ∧ ((s.link .d).state = .linked → s.portD.tx ≠ none →
          t.portD = { s.portD with
            fire := s.portD.fire.set b
              (some (fireFrame (s.bank b).desc.node n (s.bank b).desc.lanes (s.bank b).composed))
            fireOverruns :=
              if s.portD.fire[b].isSome then satInc s.portD.fireOverruns else s.portD.fireOverruns })
      ∧ ((s.link .d).state = .linked → s.forwardIdle →
          t.portD = { s.portD with
            tx := some (.own (fireFrame (s.bank b).desc.node n (s.bank b).desc.lanes (s.bank b).composed)) })
      ∧ ((s.link .d).state ≠ .linked → t.portD = s.portD)

/-- SLOT_BOUNDARY at a bank in use, step 3 (R84 to R86, R111): the windows whose close position is not ahead of P leave the
list and are reported, and each adds one to the counter of its outcome. That the reports of one boundary are made in list
order is the model's choice, log 28. -/
def Obligations.BoundaryRetiresClosedWindows : Prop :=
  ∀ (s : State) (b : BankIx) (n : BitVec 8) (rest : List (BitVec 8)) (closed : List Window),
    s.inReset = false → (s.bank b).desc.kind ≠ .disabled → (s.bankHanded b).boundaries = n :: rest →
    closed = (s.bank b).windows.filter
      (fun w => decide (sdiff w.closePos (s.pos.tp + BitVec.ofNat 32 s.pos.c) ≤ 0)) →
    ∃ t, exec (.slotBoundary (.bank b)) s = .next t
      ∧ (t.bank b).windows.map (·.item) =
          ((s.bank b).windows.filter
            (fun w => decide (0 < sdiff w.closePos (s.pos.tp + BitVec.ofNat 32 s.pos.c)))).map (·.item)
      ∧ (t.bankHanded b).retired = (s.bankHanded b).retired ++ closed.map (·.item)
      ∧ (t.bank b).counters.fired.toNat = min ((s.bank b).counters.fired.toNat
          + (closed.filter fun w => decide (w.kind = .eject ∧ 1 ≤ w.due.toNat ∧ w.full = w.due)).length) 4294967295
      ∧ (t.bank b).counters.partialServed.toNat = min ((s.bank b).counters.partialServed.toNat
          + (closed.filter fun w => decide (w.kind = .eject ∧ ¬ (1 ≤ w.due.toNat ∧ w.full = w.due)
              ∧ 1 ≤ w.any.toNat)).length) 4294967295
      ∧ (t.bank b).counters.suppressed.toNat = min ((s.bank b).counters.suppressed.toNat
          + (closed.filter fun w => decide (w.kind = .eject ∧ ¬ (1 ≤ w.due.toNat ∧ w.full = w.due)
              ∧ w.any = 0 ∧ w.protectDenied = true)).length) 4294967295
      ∧ (t.bank b).counters.missed.toNat = min ((s.bank b).counters.missed.toNat
          + (closed.filter fun w => decide (w.kind = .eject ∧ ¬ (1 ≤ w.due.toNat ∧ w.full = w.due)
              ∧ w.any = 0 ∧ w.protectDenied = false)).length) 4294967295
      ∧ (t.bank b).counters.kept.toNat = min ((s.bank b).counters.kept.toNat
          + (closed.filter fun w => decide (w.kind = .protect ∧ w.any = 0)).length) 4294967295
      ∧ (t.bank b).counters.breached.toNat = min ((s.bank b).counters.breached.toNat
          + (closed.filter fun w => decide (w.kind = .protect ∧ 1 ≤ w.any.toNat)).length) 4294967295
      ∧ (t.bank b).counters.created = (s.bank b).counters.created
      ∧ (t.bank b).counters.uncovered = (s.bank b).counters.uncovered
      ∧ (t.bank b).counters.late = (s.bank b).counters.late
      ∧ (t.bank b).counters.dropped = (s.bank b).counters.dropped
      ∧ (t.bank b).counters.abandoned = (s.bank b).counters.abandoned
      ∧ (t.bank b).counters.airLow = (s.bank b).counters.airLow

/-- SLOT_BOUNDARY at a bank in use, the windows that stay (R76, R87, R93, R96, R97): one that demands is OPEN and counts the
slot from the composed image; an EJECT window that demands is protect-denied when a lane it asks for was dropped in a
conflict, and truncates, under TRUNCATE alone, the lanes it asks for whose run ends with this slot; a PROTECT window keeps
both, and a window that does not demand keeps everything. -/
def Obligations.BoundaryCountsDemandingWindows : Prop :=
  ∀ (s : State) (b : BankIx) (n : BitVec 8) (rest : List (BitVec 8)) (p : Pos),
    s.inReset = false → (s.bank b).desc.kind ≠ .disabled → (s.bankHanded b).boundaries = n :: rest →
    p = s.pos.tp + BitVec.ofNat 32 s.pos.c →
    ∃ t, exec (.slotBoundary (.bank b)) s = .next t
      ∧ List.Forall₂
          (fun w v =>
            v.item = w.item ∧ v.kind = w.kind ∧ v.lo = w.lo ∧ v.hi = w.hi ∧ v.openPos = w.openPos
              ∧ v.closePos = w.closePos ∧ v.priority = w.priority ∧ v.trimmed = w.trimmed
              ∧ (¬ (sdiff w.openPos p < (max s.pos.c 1 : Nat) ∨ w.trimmed = true) → v = w)
              ∧ (w.kind = .protect → v.protectDenied = w.protectDenied ∧ v.truncated = w.truncated)
              ∧ ((sdiff w.openPos p < (max s.pos.c 1 : Nat) ∨ w.trimmed = true) →
                  v.state = .opened ∧ v.due = satInc w.due
                    ∧ v.any = (if ∃ i : Fin 128, w.lo ≤ i.val ∧ i.val ≤ w.hi
                        ∧ (t.bank b).composed.getLsbD i.val = true then satInc w.any else w.any)
                    ∧ (w.kind = .eject → w.hi < 128 →
                        v.full = if ∀ i : Fin 128, w.lo ≤ i.val → i.val ≤ w.hi →
                          (t.bank b).composed.getLsbD i.val = true then satInc w.full else w.full)
                    ∧ (w.kind = .protect → v.full = w.full)
                    ∧ (w.kind = .eject → (s.bank b).desc.lanes ≤ 128 →
                        (v.protectDenied = true ↔ w.protectDenied = true
                          ∨ ∃ i : Fin 128, w.lo ≤ i.val ∧ i.val ≤ w.hi ∧ w.truncated.getLsbD i.val = false
                            ∧ DroppedAt s (s.bank b) i)
                        ∧ ∀ i : Fin 128, v.truncated.getLsbD i.val = true ↔ w.truncated.getLsbD i.val = true
                          ∨ ((s.bank b).desc.longPolicy = .truncate ∧ i.val < (s.bank b).desc.lanes
                            ∧ w.lo ≤ i.val ∧ i.val ≤ w.hi ∧ (t.bank b).composed.getLsbD i.val = true
                            ∧ (t.bank b).lanes[i].onRun = (s.bank b).desc.maxSlots))))
          ((s.bank b).windows.filter fun w => decide (0 < sdiff w.closePos p)) (t.bank b).windows

/-- SLOT_BOUNDARY at a bank in use, which lanes are ON (R90, R91, R92): a blocked lane is OFF, a hold lane that is not
blocked is ON, and any other lane is OFF while the belt is STALLED or no demanding EJECT window asks for it. -/
def Obligations.BlockedLanesOffAndHoldLanesOn : Prop :=
  ∀ (s : State) (b : BankIx) (n : BitVec 8) (rest : List (BitVec 8)) (p : Pos),
    s.inReset = false → (s.bank b).desc.kind ≠ .disabled → (s.bankHanded b).boundaries = n :: rest →
    p = s.pos.tp + BitVec.ofNat 32 s.pos.c →
    ∃ t, exec (.slotBoundary (.bank b)) s = .next t
      ∧ ∀ (i : Fin 128) (blocked : Prop),
          (blocked ↔ 0 < (s.bank b).lanes[i].recoveryLeft ∨ (s.bank b).desc.maxSlots ≤ (s.bank b).lanes[i].onRun
            ∨ ((s.bank b).desc.kind = .coil ∧ (s.bank b).lanes[i].thermal = .cooling) ∨ (s.bank b).inhibit = true
            ∨ ((s.bank b).mode ≠ .run ∧ (s.bank b).mode ≠ .drain) ∨ (s.link .d).state ≠ .linked) →
          ((s.bank b).desc.lanes ≤ i.val → (t.bank b).composed.getLsbD i.val = false)
            ∧ (blocked → (t.bank b).composed.getLsbD i.val = false)
            ∧ (i.val < (s.bank b).desc.lanes → ¬ blocked → 0 < (s.bank b).lanes[i].holdLeft →
                (t.bank b).composed.getLsbD i.val = true)
            ∧ ((s.bank b).lanes[i].holdLeft = 0 →
                (s.pos.stall = .stalled
                  ∨ ∀ w ∈ (s.bank b).windows,
                      ¬ (w.kind = .eject ∧ (sdiff w.openPos p < (max s.pos.c 1 : Nat) ∨ w.trimmed = true)
                        ∧ 0 < sdiff w.closePos p ∧ w.lo ≤ i.val ∧ i.val ≤ w.hi
                        ∧ w.truncated.getLsbD i.val = false)) →
                (t.bank b).composed.getLsbD i.val = false)

/-- The bound on the lanes ON in a composed image (R94): at most the larger of the effective budget and the number of lanes
in minimum-pulse hold that are not COOLING; none while Port D is not LINKED. -/
def Obligations.LanesOnStayWithinTheBudget : Prop :=
  ∀ (s : State) (b : BankIx) (n : BitVec 8) (rest : List (BitVec 8)),
    s.inReset = false → (s.bank b).desc.kind ≠ .disabled → (s.bankHanded b).boundaries = n :: rest →
    ∃ t, exec (.slotBoundary (.bank b)) s = .next t
      ∧ ((s.link .d).state ≠ .linked → lanesOn (t.bank b).composed = 0)
      ∧ lanesOn (t.bank b).composed ≤
          max
            (if (s.bank b).desc.kind = .air ∧ 0 < (s.bank b).airLow then (s.bank b).desc.reserveBudget
              else (s.bank b).desc.budget)
            ((List.range (s.bank b).desc.lanes).filter fun i =>
              decide (0 < ((s.bank b).lane i).holdLeft)
                && !(decide ((s.bank b).desc.kind = .coil) && decide (((s.bank b).lane i).thermal = .cooling))).length

/-- The candidates of a composition and their ranking (R90 to R94, R111), in any bank and conditions: which lanes are hold
lanes and which are candidates, with the values they are ranked by; which remain after conflicts; the capacity; such a
candidate is ON exactly when fewer rank before it than the capacity, by the keys ON first, higher eject priority, earlier
first window, lower lane, and a bank in an air-low hold admits only reserve_priority and above; only hold lanes and these
candidates are ON, and each candidate left OFF is counted as denied. A SLOT_BOUNDARY at a bank in use composes so, from the
image it latches and the windows that have not closed. -/
def Obligations.CandidatesAreGrantedByRank : Prop :=
  (∀ (k : Conditions) (u : BankUnit), u.desc.lanes ≤ 128 →
      (∀ i : Fin 128, i.val < u.desc.lanes →
          (holdLane k u i.val = true ↔ ¬ LaneBlocked k u u.lanes[i] ∧ 0 < u.lanes[i].holdLeft)
            ∧ ((candidate? k u i.val).isSome = true ↔ ¬ LaneBlocked k u u.lanes[i] ∧ u.lanes[i].holdLeft = 0
              ∧ k.stalled = false ∧ ∃ w ∈ u.windows, w.Asks k i.val)
            ∧ (∀ c, candidate? k u i.val = some c →
              c.lane = i.val ∧ c.wasOn = u.latched.getLsbD i.val
                ∧ (∃ w ∈ u.windows, w.Asks k i.val ∧ w.priority = c.priority)
                ∧ (∀ w ∈ u.windows, w.Asks k i.val → w.priority ≤ c.priority)
                ∧ ∃ before w after, u.windows = before ++ w :: after ∧ before.length = c.first ∧ w.Asks k i.val
                  ∧ ∀ x ∈ before, ¬ x.Asks k i.val)
            ∧ ((compose k u).composed.getLsbD i.val = true ↔
              holdLane k u i.val = true
                ∨ ∃ c ∈ contenders k u, c.lane = i.val ∧ (compose k u).composed.getLsbD c.lane = true))
        ∧ capacity k u =
            (if k.linked = false then 0
              else if u.desc.kind = .air ∧ 0 < u.airLow then u.desc.reserveBudget else u.desc.budget)
              - ((List.range u.desc.lanes).filter (holdLane k u)).length
        ∧ (compose k u).counters.budgetDenied.toNat = min (u.counters.budgetDenied.toNat
            + ((contenders k u).filter fun c => !(compose k u).composed.getLsbD c.lane).length) 4294967295
        ∧ ∀ c : Candidate,
          (c ∈ contenders k u ↔ ∃ i, i < u.desc.lanes ∧ candidate? k u i = some c
              ∧ ¬ ((∃ g ∈ u.windows, g.Guards k i)
                ∧ (u.desc.conflict = .protectFirst
                  ∨ (u.desc.conflict = .byPriority ∧ ∃ g ∈ u.windows, g.Guards k i ∧ c.priority ≤ g.priority))))
            ∧ (c ∈ contenders k u →
              ((compose k u).composed.getLsbD c.lane = true ↔
                (u.desc.kind = .air → 0 < u.airLow → u.desc.reservePriority ≤ c.priority)
                  ∧ ((contenders k u).filter fun d =>
                      (!(decide (u.desc.kind = .air) && decide (0 < u.airLow))
                          || decide (u.desc.reservePriority ≤ d.priority))
                        && decide ((d.wasOn = true ∧ c.wasOn = false)
                          ∨ (d.wasOn = c.wasOn ∧ (c.priority < d.priority
                            ∨ (c.priority = d.priority ∧ (d.first < c.first
                              ∨ (d.first = c.first ∧ d.lane < c.lane))))))).length < capacity k u)))
    ∧ ∀ (s : State) (b : BankIx) (n : BitVec 8) (rest : List (BitVec 8)) (u : BankUnit),
      s.inReset = false → (s.bank b).desc.kind ≠ .disabled → (s.bankHanded b).boundaries = n :: rest →
      u = { s.bank b with
        latched := (s.bank b).composed
        windows := (s.bank b).windows.filter fun w => decide (0 < sdiff w.closePos s.atBoundary.p) } →
      ∃ t, exec (.slotBoundary (.bank b)) s = .next t
        ∧ (t.bank b).composed = (compose s.atBoundary u).composed
        ∧ (t.bank b).counters.budgetDenied = (compose s.atBoundary u).counters.budgetDenied

/-- SLOT_BOUNDARY at a bank in use, the run state of its lanes (R95, R96); lanes at or above `lanes` keep theirs (R63), and
no run goes beyond max_slots. -/
def Obligations.RunStateFollowsTheImage : Prop :=
  ∀ (s : State) (b : BankIx) (n : BitVec 8) (rest : List (BitVec 8)),
    s.inReset = false → (s.bank b).desc.kind ≠ .disabled → (s.bankHanded b).boundaries = n :: rest →
    ∃ t, exec (.slotBoundary (.bank b)) s = .next t
      ∧ ∀ (i : Fin 128) (l l' : Lane) (on was : Bool),
          l = (s.bank b).lanes[i] → l' = (t.bank b).lanes[i] → on = (t.bank b).composed.getLsbD i.val →
          was = (s.bank b).composed.getLsbD i.val →
          ((s.bank b).desc.lanes ≤ i.val → l' = l)
            ∧ (i.val < (s.bank b).desc.lanes →
              (on = false → l'.onRun = 0 ∧ l'.holdLeft = 0 ∧ l'.recoveryLeft = l.recoveryLeft - 1)
                ∧ (on = true → was = false → l'.onRun = 1 ∧ l'.holdLeft = (s.bank b).desc.minSlots - 1)
                ∧ (on = true → was = true → l'.onRun = l.onRun + 1 ∧ l'.holdLeft = l.holdLeft - 1)
                ∧ (on = true → l'.recoveryLeft =
                    if l'.onRun = (s.bank b).desc.maxSlots then (s.bank b).desc.recoverySlots else 0)
                ∧ (on = true → 1 ≤ (s.bank b).desc.maxSlots → l'.onRun ≤ (s.bank b).desc.maxSlots))

/-- SLOT_BOUNDARY at a bank in use, the heat of its lanes (R98, R99): a COIL bank's lanes gain and lose heat and change
their thermal state, each trip counted and COIL_TRIP raised, with its NOTICE (`raise`); an AIR bank's lanes keep theirs. -/
def Obligations.HeatFollowsTheImage : Prop :=
  ∀ (s : State) (b : BankIx) (n : BitVec 8) (rest : List (BitVec 8)),
    s.inReset = false → (s.bank b).desc.kind ≠ .disabled → (s.bankHanded b).boundaries = n :: rest →
    ∃ t, exec (.slotBoundary (.bank b)) s = .next t
      ∧ (∀ (i : Fin 128) (l l' : Lane), l = (s.bank b).lanes[i] → l' = (t.bank b).lanes[i] →
          ((s.bank b).desc.kind = .air → l'.heat = l.heat ∧ l'.thermal = l.thermal)
            ∧ ((s.bank b).desc.kind = .coil → i.val < (s.bank b).desc.lanes →
              ((t.bank b).composed.getLsbD i.val = true → l'.heat = min (l.heat + (s.bank b).desc.heatOn) 65535)
                ∧ ((t.bank b).composed.getLsbD i.val = false → l'.heat = l.heat - (s.bank b).desc.cool)
                ∧ (l.thermal = .normal →
                    (l'.thermal = .cooling ↔ (s.bank b).desc.heatTrip ≤ l'.heat))
                ∧ (l.thermal = .cooling →
                    (l'.thermal = .normal ↔ l'.heat ≤ (s.bank b).desc.heatResume))))
      ∧ (t.bank b).counters.coilTrips.toNat =
          min ((s.bank b).counters.coilTrips.toNat
            + ((List.finRange 128).filter fun i =>
                decide ((s.bank b).lanes[i].thermal = .normal) && decide ((t.bank b).lanes[i].thermal = .cooling)).length)
            4294967295
      ∧ (t.mgmt.flags =
          if ∃ i : Fin 128, (s.bank b).lanes[i].thermal = .normal ∧ (t.bank b).lanes[i].thermal = .cooling then
            s.mgmt.flags ||| BitVec.twoPow 15 8 else s.mgmt.flags)
      ∧ ((∃ i : Fin 128, (s.bank b).lanes[i].thermal = .normal ∧ (t.bank b).lanes[i].thermal = .cooling) →
          t.mgmt = (raise [.coilTrip] s).mgmt ∧ t.portU = (raise [.coilTrip] s).portU)
      ∧ ((∀ i : Fin 128, ¬ ((s.bank b).lanes[i].thermal = .normal ∧ (t.bank b).lanes[i].thermal = .cooling)) →
          t.mgmt = s.mgmt ∧ t.portU = s.portU)

/-- STATUS_FRAME and AIR_LOW_HOLD_END (R100 to R103): the inhibit indication at any bank in use; the air-low length at an
AIR bank, a hold started from no hold counted and flagged, with its NOTICE (`raise`); the AIR report made at every change of the combination. That the
end of a hold is a step of its own is the table's; that a STATUS frame taken before that step first withdraws the report of
the hold that ran out is the model's choice, log 19. -/
def Obligations.StatusFramesSetHoldAndInhibit : Prop :=
  (∀ (s : State) (b : BankIx) (d : DriverStatus) (rest : List DriverStatus) (withdrawn : Bool),
      s.inReset = false → (s.bank b).desc.kind ≠ .disabled → (s.bankHanded b).status = d :: rest →
      (withdrawn = true ↔ (s.bank b).holdEnd = true ∧ (s.bank b).airReport = true) →
      ∃ t, exec (.statusFrame b) s = .next t
        ∧ (t.bank b).inhibit = d.inhibit ∧ (t.bank b).holdEnd = false
        ∧ (t.bank b).airLow = (if (s.bank b).desc.kind = .air then d.airLow else (s.bank b).airLow)
        ∧ (t.bank b).airReport =
            (decide ((s.bank b).desc.kind = .air ∧ 0 < (t.bank b).airLow) && (s.bank b).desc.airFeedHold)
        ∧ (t.bankHanded b).air = (s.bankHanded b).air ++ (if withdrawn then [false] else [])
            ++ (if (t.bank b).airReport = ((s.bank b).airReport && !withdrawn) then [] else [(t.bank b).airReport])
        ∧ (t.bankHanded b).status = rest
        ∧ (t.bank b).counters =
            (if (s.bank b).desc.kind = .air ∧ 0 < d.airLow ∧ (s.bank b).airLow = 0 then
              { (s.bank b).counters with airLow := satInc (s.bank b).counters.airLow } else (s.bank b).counters)
        ∧ t.mgmt.flags =
            (if (s.bank b).desc.kind = .air ∧ 0 < d.airLow ∧ (s.bank b).airLow = 0 then
              s.mgmt.flags ||| BitVec.twoPow 15 7 else s.mgmt.flags)
        ∧ ((s.bank b).desc.kind = .air ∧ 0 < d.airLow ∧ (s.bank b).airLow = 0 →
            t.mgmt = (raise [.airLow] s).mgmt ∧ t.portU = (raise [.airLow] s).portU)
        ∧ (¬ ((s.bank b).desc.kind = .air ∧ 0 < d.airLow ∧ (s.bank b).airLow = 0) →
            t.mgmt = s.mgmt ∧ t.portU = s.portU)
        ∧ (t.bank b).composed = (s.bank b).composed ∧ (t.bank b).latched = (s.bank b).latched
        ∧ (t.bank b).lanes = (s.bank b).lanes ∧ (t.bank b).windows = (s.bank b).windows
        ∧ (t.bank b).desc = (s.bank b).desc ∧ t.portD = s.portD ∧ SameOutsideBank b s t
        ∧ (t.bank b).mode = (s.bank b).mode
        ∧ t.bankHanded b = { s.bankHanded b with status := rest, air := (t.bankHanded b).air })
    ∧ ∀ (s : State) (b : BankIx), s.inReset = false → (s.bank b).holdEnd = true →
        ∃ t, exec (.airLowHoldEnd b) s = .next t
          ∧ t.bank b = { s.bank b with holdEnd := false, airReport := false }
          ∧ t.bankHanded b =
              (if (s.bank b).airReport = true then { s.bankHanded b with air := (s.bankHanded b).air ++ [false] }
                else s.bankHanded b)
          ∧ t.portU = s.portU ∧ t.portD = s.portD ∧ t.mgmt = s.mgmt ∧ SameOutsideBank b s t

/-- BANK_MODE_CHANGE (R88, R105): RUN and DRAIN change neither image; STANDBY, TEST and FAULT replace the composed image
with all-off and cut the run and the hold of the lanes it held ON. -/
def Obligations.ModeEntryClearsTheComposedImage : Prop :=
  ∀ (s : State) (b : BankIx) (m : Mode) (rest : List Mode), s.inReset = false → (s.bankHanded b).modes = m :: rest →
    ∃ t, exec (.bankModeChange b) s = .next t
      ∧ t.bankHanded b = { s.bankHanded b with modes := rest } ∧ t.portU = s.portU ∧ t.portD = s.portD
      ∧ t.mgmt = s.mgmt ∧ SameOutsideBank b s t
      ∧ ((m = .run ∨ m = .drain) → t.bank b = { s.bank b with mode := m })
      ∧ (m ≠ .run → m ≠ .drain →
          (t.bank b).mode = m ∧ (t.bank b).composed = 0 ∧ (t.bank b).latched = (s.bank b).latched
            ∧ (t.bank b).windows = (s.bank b).windows ∧ (t.bank b).counters = (s.bank b).counters
            ∧ (t.bank b).desc = (s.bank b).desc ∧ (t.bank b).inhibit = (s.bank b).inhibit
            ∧ (t.bank b).airLow = (s.bank b).airLow ∧ (t.bank b).airReport = (s.bank b).airReport
            ∧ (t.bank b).holdEnd = (s.bank b).holdEnd
            ∧ ∀ i : Fin 128, (t.bank b).lanes[i] =
                if (s.bank b).composed.getLsbD i.val = true then { (s.bank b).lanes[i] with onRun := 0, holdLeft := 0 }
                else (s.bank b).lanes[i])

/-- FLUSH (R33, R108): every window of every list ABANDONED, the track empty and its count reported (R35), the retirement
reports not yet taken discarded; lanes, heat, images, holds and inhibit flags kept. That FLUSH is a command of its own,
taken in any mode and with no change of mode, is the model's choice, log 5; the flush that the Mode Controller calls, with the
change of mode that R108 gives it, is in ChangesOfModeAreHandedOn. -/
def Obligations.FlushAbandonsEveryWindow : Prop :=
  ∀ s : State, s.inReset = false → s.mgmt.line.occLow < s.mgmt.line.occHigh →
    ∃ t, exec .flush s = .next t
      ∧ t.track = []
      ∧ (∀ b, (t.bank b).windows = [] ∧ (t.bankHanded b) = { s.bankHanded b with retired := [] }
          ∧ (t.bank b).counters =
              { (s.bank b).counters with
                abandoned :=
                  BitVec.ofNat 32 (min ((s.bank b).counters.abandoned.toNat + (s.bank b).windows.length) 4294967295) }
          ∧ (t.bank b).lanes = (s.bank b).lanes ∧ (t.bank b).composed = (s.bank b).composed
          ∧ (t.bank b).latched = (s.bank b).latched ∧ (t.bank b).airLow = (s.bank b).airLow
          ∧ (t.bank b).inhibit = (s.bank b).inhibit ∧ (t.bank b).desc = (s.bank b).desc
          ∧ (t.bank b).mode = (s.bank b).mode ∧ (t.bank b).airReport = (s.bank b).airReport
          ∧ (t.bank b).holdEnd = (s.bank b).holdEnd)
      ∧ t.handed.occupancy = s.handed.occupancy ++ [false] ∧ t.handed.trackEmpty = s.handed.trackEmpty
      ∧ t.pos = s.pos ∧ t.intake = s.intake ∧ t.cls = s.cls ∧ t.station = s.station ∧ t.mc = s.mc
      ∧ t.portU = s.portU ∧ t.portD = s.portD ∧ t.mgmt = s.mgmt
      ∧ t = { s with
          track := [], banks := t.banks
          handed := { s.handed with occupancy := t.handed.occupancy, banks := t.handed.banks } }

/-! ## The Station Controller -/

/-- STATION_TICK (R122): the setpoint becomes the target when they differ by slew or less, moves toward it by slew when
they differ by more, and a change issues a DRIVE rotor frame. -/
def Obligations.StationTickSlewsTheRotor : Prop :=
  ∀ s : State, s.inReset = false → 1 ≤ s.station.entry.slew →
    (s.station.setpoint = s.station.target → exec .stationTick s = .next s)
      ∧ ∀ v : Nat, s.station.setpoint ≠ s.station.target →
        (s.station.target ≤ s.station.setpoint + s.station.entry.slew →
          s.station.setpoint ≤ s.station.target + s.station.entry.slew → v = s.station.target) →
        (s.station.setpoint + s.station.entry.slew < s.station.target →
          v = s.station.setpoint + s.station.entry.slew) →
        (s.station.target + s.station.entry.slew < s.station.setpoint →
          v = s.station.setpoint - s.station.entry.slew) →
        exec .stationTick s = .next (issueDrive .rotor { s with station := { s.station with setpoint := v } })

/-- BURDEN_CONTRIBUTION (R113) and RING_ADVANCE (R114, R117, R118, R121, R123): the ring, B, the band's one step, and on a
change of band in RUN and DRAIN the rotor target and the splitter. -/
def Obligations.BurdenRingAndBand : Prop :=
  (∀ (s : State) (n : Nat) (rest : List Nat), s.inReset = false → s.handed.burden = n :: rest →
      exec .burdenContribution s = .next
        { s with
          station := { s.station with
            current := min (s.station.current + n) 16777215
            b := min (s.station.current + n) 16777215 + s.station.closed.toList.sum }
          handed := { s.handed with burden := rest } })
    ∧ ∀ (s : State) (closed : Vector Nat 7) (b : Nat) (rise fall : Prop) (band : Fin 8) (st : Station),
        s.inReset = false → 0 < s.handed.ring →
        closed.toList = s.station.current :: s.station.closed.toList.dropLast → b = closed.toList.sum →
        (rise ↔ s.station.band.val < 7 ∧ (s.station.bands.toList.getD (s.station.band.val + 1) ⟨0, 0, 0⟩).t ≤ b) →
        (fall ↔ 0 < s.station.band.val ∧ b < s.station.bands[s.station.band].t - s.station.entry.h) →
        (rise → band.val = s.station.band.val + 1) →
        (¬ rise → fall → band.val + 1 = s.station.band.val) →
        (¬ rise → ¬ fall → band = s.station.band) →
        st = { s.station with current := 0, closed := closed, b := b } →
        (band = s.station.band →
          exec .ringAdvance s = .next { s with station := st, handed := { s.handed with ring := s.handed.ring - 1 } })
          ∧ (band ≠ s.station.band → s.station.mode ≠ .run → s.station.mode ≠ .drain →
            exec .ringAdvance s = .next
              { s with
                station := { st with
                  band := band
                  target := clamp s.station.entry.rotIdle s.station.entry.rotMin s.station.entry.rotMax }
                handed := { s.handed with ring := s.handed.ring - 1 } })
          ∧ (band ≠ s.station.band → (s.station.mode = .run ∨ s.station.mode = .drain) →
            exec .ringAdvance s = .next
              (issueDrive .splitter
                { s with
                  station := { st with
                    band := band
                    target := clamp s.station.bands[band].f s.station.entry.rotMin s.station.entry.rotMax
                    splitter := s.station.bands[band].split }
                  handed := { s.handed with ring := s.handed.ring - 1 } }))

/-- STATION_MODE_CHANGE (R121, R123, R126, R127): MODE, BLIND, the rotor target, and on entry into RUN the splitter; a
change of the feeder command issues its frame first. The feeder's frame before the splitter's is the model's choice,
log 28; BLIND reads Port U's state as last reported, log 21. -/
def Obligations.StationTakesChangesOfMode : Prop :=
  ∀ (s : State) (m : Mode) (rest : List Mode) (h : HoldSet) (c : FeederCommand) (t : State),
    s.inReset = false → s.handed.stationModes = m :: rest →
    h = { s.station.holds with
      mode := decide (m ≠ .run), blind := decide (m = .run) && !s.station.portULinked } →
    (c = .hold ↔ (h.mode || h.occupancy || h.blind || h.actuator || h.air || h.operator) = true) →
    t = { s with
      station := { s.station with
        mode := m
        holds := h
        command := c
        target := clamp
          (if m = .run ∨ m = .drain then s.station.bands[s.station.band].f else s.station.entry.rotIdle)
          s.station.entry.rotMin s.station.entry.rotMax
        splitter := if m = .run then s.station.bands[s.station.band].split else s.station.splitter }
      handed := { s.handed with stationModes := rest } } →
    (m ≠ .run → exec .stationModeChange s = .next (if c = s.station.command then t else issueDrive .feeder t))
      ∧ (m = .run → exec .stationModeChange s = .next
          (issueDrive .splitter (if c = s.station.command then t else issueDrive .feeder t)))

/-- HOLD_REASON_REPORT (R102, R125, R127, R128) from the Item Track, a bank, Port U and Port D; PORT_D_LINKED (R129).
BLIND reads Port U's state as last reported, log 21. -/
def Obligations.HoldReasonReportsAndLinkUp : Prop :=
  ∀ s : State, s.inReset = false →
    (∀ on rest, s.handed.occupancy = on :: rest →
      exec (.holdReasonReport .itemTrack) s = .next
        (setHolds { s.station.holds with occupancy := on } { s with handed := { s.handed with occupancy := rest } }))
      ∧ (∀ (b : BankIx) (on : Bool) (rest : List Bool) (banks : BitVec 4), (s.bankHanded b).air = on :: rest →
        (∀ c : BankIx, banks.getLsbD c.val = if c = b then on else s.station.airBanks.getLsbD c.val) →
        exec (.holdReasonReport (.bank b)) s = .next
          (setHolds { s.station.holds with air := decide (banks ≠ 0) }
            { s.setBankHanded b { s.bankHanded b with air := rest } with
              station := { s.station with airBanks := banks } }))
      ∧ (∀ rest, s.handed.portUStation = .left :: rest →
        exec (.holdReasonReport .portU) s = .next
          (setHolds { s.station.holds with blind := s.station.holds.blind || decide (s.station.mode = .run) }
            { s with
              station := { s.station with portULinked := false }
              handed := { s.handed with portUStation := rest } }))
      ∧ (∀ rest, s.handed.portUStation = .became :: rest →
        exec (.holdReasonReport .portU) s = .next
          (setHolds { s.station.holds with blind := false }
            { s with
              station := { s.station with portULinked := true }
              handed := { s.handed with portUStation := rest } }))
      ∧ (∀ rest, s.handed.portDStation = .left :: rest →
        exec (.holdReasonReport .portD) s = .next
          (setHolds { s.station.holds with actuator := true }
            { s with handed := { s.handed with portDStation := rest } }))
      ∧ ∀ (rest : List LinkReport) (h : HoldSet) (c : FeederCommand), s.handed.portDStation = .became :: rest →
        h = { s.station.holds with actuator := false } →
        (c = .hold ↔ (h.mode || h.occupancy || h.blind || h.actuator || h.air || h.operator) = true) →
        exec .portDLinked s = .next
          (issueDrive .splitter (issueDrive .rotor (issueDrive .feeder
            { s with
              station := { s.station with holds := h, command := c }
              handed := { s.handed with portDStation := rest } })))

/-! ## The Mode Controller -/

/-- EMERGENCY_STOP (R107, R146, R148, R163): every bank in use hands an all-off FIRE frame with the number of the slot in
progress, clears both images and cuts runs and holds; on a busy lane each frame takes the place of its bank's waiting one,
which counts as an overrun, and on an idle one the lowest bank's goes first (FreeLaneInv leaves no other case in LINKED).
The line enters FAULT with cause ESTOP and is flushed, each Bank Unit taking FAULT with the flush (R105, R108; log 5), unless it
is in FAULT already; the FAULT flag is raised, with its NOTICE (`raise`); the descriptors, holds, inhibit flags and the reports
that the flush does not make are as they were. That the command is always a fresh assertion, that the banks hand their frames in the order of their numbers, and that a free lane
starts the first in the same step, are the model's choice, logs 8, 28 and 17. -/
def Obligations.EmergencyStopTurnsEverythingOff : Prop :=
  ∀ (s : State) (used : BankIx → Bool) (off : BankIx → Frame), s.inReset = false →
    (∀ b, used b = true ↔ (s.bank b).desc.kind ≠ .disabled) →
    (∀ b, off b = ⟨BitVec.ofNat 6 (s.bank b).desc.node, .fire,
      s.pos.slot :: BitVec.ofNat 8 (s.bank b).desc.lanes
        :: List.replicate (((s.bank b).desc.lanes + 7) / 8) 0⟩) →
    ∃ t, exec .emergencyStop s = .next t
      ∧ t.stopn = .asserted ∧ t.mc.mode = .fault ∧ t.mgmt.flags = s.mgmt.flags ||| BitVec.twoPow 15 14
      ∧ t.mgmt = (raise [.fault] s).mgmt ∧ t.portU = (raise [.fault] s).portU
      ∧ (s.mc.mode = .fault → t.mc = s.mc ∧ t.track = s.track
          ∧ ∀ b, (t.bank b).windows = (s.bank b).windows ∧ (t.bankHanded b) = s.bankHanded b)
      ∧ (s.mc.mode ≠ .fault → t.mc = { s.mc with mode := .fault, cause := .estop } ∧ t.track = []
          ∧ t.handed.stationModes = s.handed.stationModes ++ [.fault]
          ∧ ∀ b, (t.bank b).windows = []
            ∧ (t.bankHanded b) = { s.bankHanded b with retired := [], modes := [] } ∧ (t.bank b).mode = .fault
            ∧ (t.bank b).counters.abandoned.toNat =
                min ((s.bank b).counters.abandoned.toNat + (s.bank b).windows.length) 4294967295)
      ∧ (∀ b, (used b = true ∨ s.mc.mode ≠ .fault) →
          (t.bank b).composed = 0
            ∧ (∀ i : Fin 128, (t.bank b).lanes[i] =
                if (s.bank b).composed.getLsbD i.val = true then { (s.bank b).lanes[i] with onRun := 0, holdLeft := 0 }
                else (s.bank b).lanes[i]))
      ∧ (∀ b, used b = false → s.mc.mode = .fault →
          (t.bank b).composed = (s.bank b).composed ∧ (t.bank b).lanes = (s.bank b).lanes)
      ∧ (∀ b, (t.bank b).latched = if used b = true then 0 else (s.bank b).latched)
      ∧ ((s.link .d).state = .linked → s.portD.tx ≠ none →
          t.portD = { s.portD with
              fire := Vector.ofFn fun b : Fin 4 => if used b then some (off b) else s.portD.fire[b]
              fireOverruns := t.portD.fireOverruns }
            ∧ t.portD.fireOverruns.toNat = min (s.portD.fireOverruns.toNat
                + ((List.finRange 4).filter fun b => used b && s.portD.fire[b].isSome).length) 4294967295)
      ∧ ((s.link .d).state = .linked → s.forwardIdle →
          (∀ b, used b = true → (∀ c, c < b → used c = false) →
            t.portD = { s.portD with
              tx := some (.own (off b))
              fire := Vector.ofFn fun c : Fin 4 => if used c && decide (c ≠ b) then some (off c) else none })
            ∧ ((∀ b, used b = false) → t.portD = s.portD))
      ∧ ((s.link .d).state ≠ .linked → t.portD = s.portD)
      ∧ t.pos = s.pos ∧ t.intake = s.intake ∧ t.cls = s.cls ∧ t.station = s.station ∧ t.proving = s.proving
      ∧ t.portU.link = s.portU.link ∧ t.portD.link = s.portD.link
      ∧ (s.mc.mode = .fault → t.handed = s.handed)
      ∧ (s.mc.mode ≠ .fault → s.mgmt.line.occLow < s.mgmt.line.occHigh →
          t.handed.occupancy = s.handed.occupancy ++ [false])
      ∧ t.handed = { s.handed with
          occupancy := t.handed.occupancy, stationModes := t.handed.stationModes, banks := t.handed.banks }
      ∧ t.pending = s.pending ∧ t.inReset = s.inReset ∧ t.nodeAddr = s.nodeAddr
      ∧ ∀ b, (t.bank b).desc = (s.bank b).desc ∧ (t.bank b).airLow = (s.bank b).airLow
          ∧ (t.bank b).inhibit = (s.bank b).inhibit ∧ (t.bank b).airReport = (s.bank b).airReport
          ∧ (t.bank b).holdEnd = (s.bank b).holdEnd
          ∧ (s.mc.mode = .fault → (t.bank b).mode = (s.bank b).mode ∧ (t.bank b).counters = (s.bank b).counters)
          ∧ (t.bank b).counters = { (s.bank b).counters with abandoned := (t.bank b).counters.abandoned }

/-- The reports that the Mode Controller takes: ENCODER_FAULT and BELT_REVERSAL (R147, R148), BLIND_SPAN_BEGIN and
BLIND_SPAN_END (R144, R145), PROVING_EXPIRY_REPORT (R151), TRACK_EMPTY_REPORT (R140); and DRAIN_TIMEOUT (R141). Port U's
reports are taken in the order it made them, so each of the three rows that take them waits for its own at the front (R144).
With an expiry of each port ready Port U's is taken first, the model's choice, log 3; the two have the same effect.
The timeout's condition is tested when the command is taken, log 20. The faults and the timeout flush into their mode
(`faultEntry`, `flushInto`, opened by ChangesOfModeAreHandedOn; log 5). -/
def Obligations.ReportsToTheModeController : Prop :=
  ∀ s : State, s.inReset = false →
    (0 < s.handed.encoder →
      exec .encoderFault s = .next
        (if s.mc.mode = .fault then
          raise [.encoder] { s with handed := { s.handed with encoder := s.handed.encoder - 1 } }
        else raise [.encoder, .fault]
          (faultEntry .encoder { s with handed := { s.handed with encoder := s.handed.encoder - 1 } })))
      ∧ (0 < s.handed.reversal →
        exec .beltReversal s = .next
          (if s.mc.mode = .run ∨ s.mc.mode = .drain then
            raise [.fault] (faultEntry .reverse { s with handed := { s.handed with reversal := s.handed.reversal - 1 } })
          else { s with handed := { s.handed with reversal := s.handed.reversal - 1 } }))
      ∧ (∀ rest, s.handed.portUMode = .link .left :: rest →
        exec .blindSpanBegin s = .next
          (if s.mc.mode = .run then
            raise [.blind]
              { s with
                mc := { s.mc with blindStart := some s.pos.tp, blindEnd := none }
                handed := { s.handed with portUMode := rest } }
          else { s with handed := { s.handed with portUMode := rest } }))
      ∧ (∀ rest, s.handed.portUMode = .link .became :: rest →
        exec .blindSpanEnd s = .next
          (if s.mc.blindStart ≠ none ∧ s.mc.blindEnd = none then
            { s with
              mc := { s.mc with blindEnd := some s.pos.tp }
              handed := { s.handed with portUMode := rest } }
          else { s with handed := { s.handed with portUMode := rest } }))
      ∧ (∀ rest, s.handed.portUMode = .expiry :: rest →
        exec .provingExpiryReport s = .next
          (if s.mc.mode = .test then changeMode .standby { s with handed := { s.handed with portUMode := rest } }
          else { s with handed := { s.handed with portUMode := rest } }))
      ∧ ((∀ rest, s.handed.portUMode ≠ .expiry :: rest) → 0 < s.handed.portDExpiry →
        exec .provingExpiryReport s = .next
          (if s.mc.mode = .test then
            changeMode .standby { s with handed := { s.handed with portDExpiry := s.handed.portDExpiry - 1 } }
          else { s with handed := { s.handed with portDExpiry := s.handed.portDExpiry - 1 } }))
      ∧ ((∀ rest, s.handed.portUMode ≠ .link .left :: rest) → exec .blindSpanBegin s = .next s)
      ∧ ((∀ rest, s.handed.portUMode ≠ .link .became :: rest) → exec .blindSpanEnd s = .next s)
      ∧ ((∀ rest, s.handed.portUMode ≠ .expiry :: rest) → s.handed.portDExpiry = 0 →
        exec .provingExpiryReport s = .next s)
      ∧ (0 < s.handed.trackEmpty →
        exec .trackEmptyReport s = .next
          (if s.mc.mode = .drain ∧ s.track = [] then
            raise [.drained]
              (changeMode .standby { s with handed := { s.handed with trackEmpty := s.handed.trackEmpty - 1 } })
          else { s with handed := { s.handed with trackEmpty := s.handed.trackEmpty - 1 } }))
      ∧ ((s.mgmt.line.drainLimit : Int) ≤ sdiff s.pos.tp s.mc.drainStart → s.mc.mode = .drain →
        exec .flush s = .next (flushLine s)
          ∧ exec .drainTimeout s = .next (raise [.drainTimeout] (flushInto .standby s)))
      ∧ ((s.mc.mode ≠ .drain ∨ sdiff s.pos.tp s.mc.drainStart < (s.mgmt.line.drainLimit : Int)) →
        exec .drainTimeout s = .next s)

/-! ## The ports -/

/-- FRAME_RECEIVED (R160 to R164, R191): a bad frame is counted; a frame for another node joins the relay queue
of its direction and goes on to a free lane (log 17), or is dropped with RELAY_DROP when the queue is full; a frame of the part is
handed on by port and kind.
A port takes frames in LINKED, and in PROVING with its receiver locked and the lane not owned by the run. A STATUS
frame finds its bank when it arrives, log 24. -/
def Obligations.FramesAreDroppedRelayedOrHandedOn : Prop :=
  ∀ (s : State) (p : PortId) (bytes : List Byte) (takes : Prop), s.inReset = false →
    (takes ↔ (s.link p).state = .linked
      ∨ ((s.link p).state = .proving ∧ (s.link p).locked = true
        ∧ ∀ e, s.proving.run ≠ some ⟨p, .check, e⟩)) →
    (¬ takes → exec (.frameReceived p bytes) s = .next s)
      ∧ (takes → parseFrame bytes = none →
        exec (.frameReceived p bytes) s = .next
          (s.setLink p { s.link p with badFrames := satInc (s.link p).badFrames }))
      ∧ ∀ f : RxFrame, takes → parseFrame bytes = some f →
        (f.dest ≠ s.nodeAddr → p = .u → s.portD.relay.length < 8 →
          exec (.frameReceived p bytes) s = .next
            (offerForward { s with portD := { s.portD with relay := s.portD.relay ++ [bytes] } }))
          ∧ (f.dest ≠ s.nodeAddr → p = .u → 8 ≤ s.portD.relay.length →
            exec (.frameReceived p bytes) s = .next
              (raise [.relayDrop] { s with portD := { s.portD with relayDrops := satInc s.portD.relayDrops } }))
          ∧ (f.dest ≠ s.nodeAddr → p = .d → s.portU.queue.length < 8 →
            exec (.frameReceived p bytes) s = .next
              (offerReturn { s with portU := { s.portU with queue := s.portU.queue ++ [.relayed bytes] } }))
          ∧ (f.dest ≠ s.nodeAddr → p = .d → 8 ≤ s.portU.queue.length →
            exec (.frameReceived p bytes) s = .next
              (raise [.relayDrop] { s with portU := { s.portU with relayDrops := satInc s.portU.relayDrops } }))
          ∧ (f.dest = s.nodeAddr → f.kind = .status → f.payload.length ≠ 3 →
            exec (.frameReceived p bytes) s = .next
              (s.setLink p { s.link p with badFrames := satInc (s.link p).badFrames }))
          ∧ (∀ records, f.dest = s.nodeAddr → p = .u → f.kind = .detect → detectRecords f.payload = some records →
            exec (.frameReceived p bytes) s = .next
              { s with handed := { s.handed with detects := s.handed.detects ++ [records] } })
          ∧ (f.dest = s.nodeAddr → p = .u → f.kind = .request →
            exec (.frameReceived p bytes) s = .next
              { s with handed := { s.handed with requests := s.handed.requests ++ [⟨f.src, f.payload⟩] } })
          ∧ (f.dest = s.nodeAddr → p = .d → f.kind = .status → f.payload.length = 3 →
            (∃ b : BankIx, (s.bank b).desc.kind ≠ .disabled ∧ BitVec.ofNat 6 (s.bank b).desc.node = f.src) →
            ∃ t, exec (.frameReceived p bytes) s = .next t
              ∧ t.banks = s.banks ∧ t.portU = s.portU ∧ t.portD = s.portD ∧ t.mgmt = s.mgmt
              ∧ t = { s with handed := { s.handed with banks := t.handed.banks } }
              ∧ ∀ b, t.bankHanded b =
                  (if (s.bank b).desc.kind ≠ .disabled ∧ BitVec.ofNat 6 (s.bank b).desc.node = f.src then
                    { s.bankHanded b with status := (s.bankHanded b).status ++
                      [⟨fld f.payload 0 2, (f.payload.getD 2 0).getLsbD 0⟩] }
                  else s.bankHanded b))
          ∧ (f.dest = s.nodeAddr → p = .d → f.kind = .status → f.payload.length = 3 →
            (∀ b : BankIx, ¬ ((s.bank b).desc.kind ≠ .disabled ∧ BitVec.ofNat 6 (s.bank b).desc.node = f.src)) →
            exec (.frameReceived p bytes) s = .next
              { s with portD := { s.portD with unknownSource := satInc s.portD.unknownSource } })
          ∧ (f.dest = s.nodeAddr →
            ((p = .u ∧ f.kind ≠ .detect ∧ f.kind ≠ .request ∧ f.kind ≠ .status) ∨ (p = .d ∧ f.kind ≠ .status)
              ∨ (p = .u ∧ f.kind = .status ∧ f.payload.length = 3)) →
            exec (.frameReceived p bytes) s = .next
              (s.setLink p { s.link p with misdirected := satInc (s.link p).misdirected }))

/-- SIGNAL_DETECTED, RECEIVER_LOCKED, PARTNER_READY_CHANGE and SIGNAL_LOSS (R154 to R156), in each of the four states: the
changes of a port's state, their reports, the frames kept that a link-up sends, and what leaving LINKED discards and counts.
The signal flag, what a change of mark does in each state, that a link-up starts a kept frame in the same step, and that
RELAY_DROP is raised at Port U once it has left LINKED, are the model's choice, logs 13, 14, 17 and 28. -/
def Obligations.PortsTrainLinkAndDrop : Prop :=
  ∀ (s : State) (p : PortId) (owned : Prop) (up : Link → State), s.inReset = false →
    (owned ↔ ∃ e, s.proving.run = some ⟨p, .check, e⟩) →
    (∀ l, up l = (match p with
      | .u => offerReturn { s.setLink .u l with handed := { s.handed with
          portUMode := s.handed.portUMode ++ [.link .became], portUStation := s.handed.portUStation ++ [.became] } }
      | .d => offerForward { s.setLink .d l with handed := { s.handed with
          portDStation := s.handed.portDStation ++ [.became] } })) →
    (((s.link p).state = .down →
        exec (.signalDetected p) s = .next
          (s.setLink p { s.link p with state := .training, locked := false, warning := false, signal := true }))
      ∧ ((s.link p).state ≠ .down →
        exec (.signalDetected p) s = .next (s.setLink p { s.link p with signal := true })))
      ∧ (((s.link p).state = .training → (s.link p).partnerReady = false →
          exec (.receiverLocked p) s = .next (s.setLink p { s.link p with locked := true }))
        ∧ ((s.link p).state = .training → (s.link p).partnerReady = true →
          exec (.receiverLocked p) s = .next (up { s.link p with state := .linked, locked := true, lossRun := 0 }))
        ∧ ((s.link p).state = .proving → ¬ owned →
          exec (.receiverLocked p) s = .next (s.setLink p { s.link p with locked := true }))
        ∧ ((s.link p).state = .proving → owned → exec (.receiverLocked p) s = .next s)
        ∧ ((s.link p).state = .down ∨ (s.link p).state = .linked → exec (.receiverLocked p) s = .next s))
      ∧ (((s.link p).state = .training → (s.link p).locked = true →
          exec (.partnerReadyChange p true) s = .next
            (up { s.link p with state := .linked, partnerReady := true, lossRun := 0 }))
        ∧ (∀ mark, (s.link p).state = .training → (s.link p).locked = false ∨ mark = false →
          exec (.partnerReadyChange p mark) s = .next (s.setLink p { s.link p with partnerReady := mark }))
        ∧ ((s.link p).state = .linked →
          exec (.partnerReadyChange p true) s = .next (s.setLink p { s.link p with partnerReady := true }))
        ∧ ((s.link p).state = .linked →
          ∃ t, exec (.partnerReadyChange p false) s = .next t
            ∧ t.link p = { s.link p with
                state := .training, locked := false, warning := false, partnerReady := false
                retrains := satInc (s.link p).retrains }
            ∧ LeftLinked p [] s t ∧ SameOutsidePorts s t ∧ t.proving = s.proving)
        ∧ (∀ mark, (s.link p).state = .proving → ¬ owned →
          exec (.partnerReadyChange p mark) s = .next (s.setLink p { s.link p with partnerReady := mark }))
        ∧ (∀ mark, (s.link p).state = .proving → owned → exec (.partnerReadyChange p mark) s = .next s)
        ∧ (∀ mark, (s.link p).state = .down → exec (.partnerReadyChange p mark) s = .next s))
      ∧ ((s.link p).state = .linked →
        ∃ t, exec (.signalLoss p) s = .next t
          ∧ t.link p = { s.link p with
              state := .down, locked := false, warning := false, signal := false
              retrains := satInc (s.link p).retrains }
          ∧ LeftLinked p [] s t ∧ SameOutsidePorts s t ∧ t.proving = s.proving)
      ∧ ((s.link p).state = .training →
        exec (.signalLoss p) s = .next
          (s.setLink p { s.link p with state := .down, locked := false, warning := false, signal := false }))
      ∧ ((s.link p).state = .proving ∨ (s.link p).state = .down →
        exec (.signalLoss p) s = .next (s.setLink p { s.link p with signal := false }))

/-- MONITOR_WINDOW_CLOSE and CODE_ERROR (R157 to R159). The model's choice: the bad frame that an error ends is counted here,
log 18, and a close that both sets the warning and declares loss raises LINK_WARN after the port has left LINKED, so its
NOTICE is not among what the fall of the link cuts off, log 28. -/
def Obligations.LaneQualityWarnsAndDeclaresLoss : Prop :=
  (∀ (s : State) (p : PortId) (run : Nat) (warning sets : Bool),
      s.inReset = false → (s.link p).state = .linked →
      run = (if s.mgmt.line.linkLoss ≤ (s.link p).windowErrors then (s.link p).lossRun + 1 else 0) →
      sets = (decide (s.mgmt.line.linkWarnOn ≤ (s.link p).windowErrors) && !(s.link p).warning) →
      warning = (if s.mgmt.line.linkWarnOn ≤ (s.link p).windowErrors then true
        else if (s.link p).windowErrors ≤ s.mgmt.line.linkWarnOff then false else (s.link p).warning) →
      (run ≠ 8 →
        exec (.monitorWindowClose p) s = .next
          (raise (if sets then [.linkWarn] else [])
            (s.setLink p { s.link p with
              windowErrors := 0, lossRun := run, warning := warning
              warnings := if sets then satInc (s.link p).warnings else (s.link p).warnings })))
        ∧ (run = 8 →
          ∃ t, exec (.monitorWindowClose p) s = .next t
            ∧ (t.link p).state = .training ∧ (t.link p).locked = false ∧ (t.link p).warning = false
            ∧ (t.link p).windowErrors = 0 ∧ (t.link p).retrains = satInc (s.link p).retrains
            ∧ (t.link p).warnings = (if sets then satInc (s.link p).warnings else (s.link p).warnings)
            ∧ t.link p = { s.link p with
                state := .training, locked := false, warning := false, windowErrors := 0, lossRun := run
                retrains := (t.link p).retrains, warnings := (t.link p).warnings }
            ∧ (sets = true → t.mgmt.flags.getLsbD EventFlag.linkWarn.num = true)
            ∧ (p = .u → sets = true → s.mgmt.flags.getLsbD EventFlag.linkWarn.num = false →
              s.mgmt.mask.getLsbD EventFlag.linkWarn.num = true → ¬ cutsRelayed s.portU.tx → s.portU.queue.length < 8 →
              t.portU.queue = s.portU.queue ++
                [.own ⟨0, .notice, [5, s.pos.tp.extractLsb' 24 8, s.pos.tp.extractLsb' 16 8,
                  s.pos.tp.extractLsb' 8 8, s.pos.tp.extractLsb' 0 8]⟩])
            ∧ LeftLinked p (if sets then [.linkWarn] else []) s t ∧ SameOutsidePorts s t ∧ t.proving = s.proving))
    ∧ (∀ (s : State) (p : PortId), s.inReset = false → (s.link p).state ≠ .linked →
        exec (.monitorWindowClose p) s = .next (s.setLink p { s.link p with windowErrors := 0 }))
    ∧ ∀ (s : State) (p : PortId) (inFrame takes : Bool), s.inReset = false →
        (takes = true ↔ (s.link p).state = .linked
          ∨ ((s.link p).state = .proving ∧ ∀ e, s.proving.run ≠ some ⟨p, .check, e⟩)) →
        ((s.link p).locked = true →
          exec (.codeError p inFrame) s = .next
            (s.setLink p { s.link p with
              windowErrors := min ((s.link p).windowErrors + 1) 65535
              codeErrors := satInc (s.link p).codeErrors
              badFrames := if inFrame && takes then satInc (s.link p).badFrames else (s.link p).badFrames }))
          ∧ ((s.link p).locked = false → exec (.codeError p inFrame) s = .next s)

/-- The next frame on a free lane (R163, R164), wherever a lane may be free: while Port D is LINKED the waiting FIRE frame
of the lowest-numbered bank, else the first DRIVE frame, else the oldest relayed frame; while Port U is LINKED the oldest
frame of its queue, but none while a SOFT RESET is due. PORT_D_FRAME_SENT and PORT_U_FRAME_SENT free their lane, and a
SOFT RESET whose answer has been sent is due (R179). What each transmit lane carries in each port state (R154). That no
frame starts while a SOFT RESET is due, and that a frame handed to a free lane starts in the same step, are the model's
choice, logs 12 and 17. -/
def Obligations.FreeLanesTakeTheNextFrame : Prop :=
  (∀ s : State,
      ((s.link .d).state ≠ .linked ∨ s.portD.tx ≠ none → offerForward s = s)
        ∧ ((s.link .d).state = .linked → s.portD.tx = none →
          (∀ (b : BankIx) (f : Frame), s.portD.fire[b] = some f → (∀ c : BankIx, c < b → s.portD.fire[c] = none) →
            offerForward s = { s with portD := { s.portD with tx := some (.own f), fire := s.portD.fire.set b none } })
            ∧ (∀ st f rest, (∀ c : BankIx, s.portD.fire[c] = none) → s.portD.drive = (st, f) :: rest →
              offerForward s = { s with portD := { s.portD with tx := some (.own f), drive := rest } })
            ∧ (∀ bytes rest, (∀ c : BankIx, s.portD.fire[c] = none) → s.portD.drive = [] →
              s.portD.relay = bytes :: rest →
              offerForward s = { s with portD := { s.portD with tx := some (.relayed bytes), relay := rest } })
            ∧ (s.forwardIdle → offerForward s = s)))
    ∧ (∀ s : State,
      ((s.link .u).state ≠ .linked ∨ s.portU.tx ≠ none ∨ (∃ kept, s.mgmt.softReset = .due kept) → offerReturn s = s)
        ∧ ((s.link .u).state = .linked → s.portU.tx = none → (∀ kept, s.mgmt.softReset ≠ .due kept) →
          (s.portU.queue = [] → offerReturn s = s)
            ∧ ∀ f rest, s.portU.queue = f :: rest →
              offerReturn s = { s with portU := { s.portU with tx := some f, queue := rest } }))
    ∧ (∀ s : State, s.inReset = false →
        exec .portDFrameSent s = .next (offerForward { s with portD := { s.portD with tx := none } }))
    ∧ (∀ (s : State) (due : SoftReset), s.inReset = false →
        ((s.mgmt.softReset = .waiting ∧ ∃ f, s.portU.tx = some (.resetAnswer f)) → due = .due none) →
        (¬ (s.mgmt.softReset = .waiting ∧ ∃ f, s.portU.tx = some (.resetAnswer f)) → due = s.mgmt.softReset) →
        exec .portUFrameSent s = .next
          (offerReturn { s with
            portU := { s.portU with tx := none }, mgmt := { s.mgmt with softReset := due } }))
    ∧ ∀ (s : State) (p : PortId) (tx : Option TxFrame), (p = .u → tx = s.portU.tx) → (p = .d → tx = s.portD.tx) →
        ((s.link p).state = .down ∨ (s.link p).state = .training → txLane p s = .trainingFill (s.link p).locked)
          ∧ ((s.link p).state = .linked →
            (tx = none → txLane p s = .fill true)
              ∧ (∀ f, tx = some (.own f) ∨ tx = some (.resetAnswer f) → txLane p s = .frame (f.wire s.nodeAddr))
              ∧ ∀ bytes, tx = some (.relayed bytes) → txLane p s = .frame bytes)
          ∧ ((s.link p).state = .proving →
            (∀ reg, s.proving.run = some ⟨p, .generate, .generator reg⟩ → txLane p s = .pattern reg)
              ∧ ((∀ reg, s.proving.run ≠ some ⟨p, .generate, .generator reg⟩) → txLane p s = .fill false))

/-- CHECKER_SYNC, CHECKER_MISMATCH and PROVING_EXPIRY (R166 to R169): the checker of the run takes the bits, and the
result counts its mismatches; the run ends, its result is final, its port leaves PROVING and reports the expiry. A
fresh checker synchronises, without a mismatch, on any 79 bits of a generator's running sequence, and a synchronised
one counts each wrong bit once. On any bits (R167): the next 15 are the seed; before it is synchronised a bit that differs from
the prediction discards the seed, and the checker starts afresh with no mismatch counted; 64 matches in a row synchronise it.
That an all-zero seed is discarded at once is the model's choice, log 15, and so is the grouping of bits into commands,
log 16. -/
def Obligations.ProvingRunsCheckAndExpire : Prop :=
  (∀ (s : State) (p : PortId) (role : ProvingRole) (c : Checker) (r : ProvingResult) (bits : List Bool),
      s.inReset = false → s.proving = ⟨some ⟨p, role, .checker c⟩, some r⟩ →
      ((c.isSynced = false →
        exec (.checkerSync bits) s = .next
          { s with proving :=
              ⟨some ⟨p, role, .checker (c.feed bits).1⟩,
                some { r with
                  mismatches := BitVec.ofNat 32 (min (r.mismatches.toNat + (c.feed bits).2) 4294967295)
                  errorSeen := r.errorSeen || decide (0 < (c.feed bits).2) }⟩ })
        ∧ (c.isSynced = true →
          exec (.checkerMismatch bits) s = .next
            { s with proving :=
                ⟨some ⟨p, role, .checker (c.feed bits).1⟩,
                  some { r with
                    mismatches := BitVec.ofNat 32 (min (r.mismatches.toNat + (c.feed bits).2) 4294967295)
                    errorSeen := r.errorSeen || decide (0 < (c.feed bits).2) }⟩ })))
    ∧ (∀ (s : State) (run : ProvingRun) (r : ProvingResult) (st : ProvingStatus),
        s.inReset = false → s.proving = ⟨some run, some r⟩ →
        st = (match run.engine with
          | .generator _ => .generated
          | .checker c => if c.isSynced = false then .noPattern else if r.errorSeen = true then .errors else .clean) →
        exec .provingExpiry s = .next
          { s.setLink run.port { s.link run.port with
              state := if (s.link run.port).signal = true then .training else .down
              locked := false, warning := false } with
            proving := ⟨none, some { r with status := st }⟩
            handed := (match run.port with
              | .u => { s.handed with portUMode := s.handed.portUMode ++ [.expiry] }
              | .d => { s.handed with portDExpiry := s.handed.portDExpiry + 1 }) })
    ∧ (∀ reg : BitVec 15, reg ≠ 0 →
        ∃ reg', Checker.feed (generatorBits 79 reg) .fresh = (.synced reg', 0)
          ∧ ∀ n, generatorBits n reg' = (generatorBits (79 + n) reg).drop 79)
    ∧ (∀ (flips : List Bool) (reg : BitVec 15),
        ∃ reg', Checker.feed (List.zipWith (· != ·) (generatorBits flips.length reg) flips) (.synced reg)
          = (.synced reg', flips.count true))
    ∧ (∀ (first more : List Bool) (c d e : Checker) (n m : Nat),
        Checker.feed first c = (d, n) → Checker.feed more d = (e, m) → Checker.feed (first ++ more) c = (e, n + m))
    ∧ (∀ bits : List Bool, bits.length < 15 → ∃ reg, Checker.feed bits .fresh = (.seeding reg bits.length, 0))
    ∧ (∀ (bits : List Bool) (seed : BitVec 15), bits.length = 15 →
        (∀ i : Fin 15, bits.getD i.val false = seed.getLsbD (14 - i.val)) →
        (seed ≠ 0 → Checker.feed bits .fresh = (.matching seed 0, 0))
          ∧ (seed = 0 → Checker.feed bits .fresh = (.fresh, 0)))
    ∧ (∀ (reg next : BitVec 15) (n : Nat) (bit predicted : Bool),
        predicted = (reg.getLsbD 14 != reg.getLsbD 13) →
        (∀ i : Fin 15, next.getLsbD i.val = if i.val = 0 then predicted else reg.getLsbD (i.val - 1)) →
        (bit ≠ predicted → Checker.feed [bit] (.matching reg n) = (.fresh, 0))
          ∧ (bit = predicted → n < 63 → Checker.feed [bit] (.matching reg n) = (.matching next (n + 1), 0))
          ∧ (bit = predicted → n = 63 → Checker.feed [bit] (.matching reg n) = (.synced next, 0))
          ∧ Checker.feed [bit] (.synced reg) = (.synced next, if bit = predicted then 0 else 1))
    ∧ ∀ (reg : BitVec 15) (n : Nat), (Checker.seeding reg n).isSynced = false
      ∧ (Checker.matching reg n).isSynced = false ∧ (Checker.synced reg).isSynced = true

/-! ## The Management Engine -/

/-- REQUEST_ARRIVAL and UNKNOWN_REQUEST (R172, R173, R193): a request joins the queue, or is answered BUSY at once
when 4 are held; one whose decoding fails is answered UNKNOWN or RANGE. What each payload decodes to (R192, R193): each request
code with its arguments, by the table and group codes, and every failure: a payload or arguments too short, an unknown code,
arguments of a wrong length. That every failure to decode belongs to UNKNOWN_REQUEST is the model's choice, log 11. -/
def Obligations.RequestsQueueAndFailToDecode : Prop :=
  (∀ (s : State) (r : Request) (rest : List Request), s.inReset = false → s.handed.requests = r :: rest →
      (s.mgmt.queue.length < 4 →
        exec .requestArrival s = .next
          { s with
            handed := { s.handed with requests := rest }
            mgmt := { s.mgmt with queue := s.mgmt.queue ++ [r] } })
        ∧ (4 ≤ s.mgmt.queue.length →
          exec .requestArrival s = .next
            (pushOwn ⟨r.src, .answer, [r.payload.getD 0 0, r.payload.getD 1 0, 1]⟩
              { s with handed := { s.handed with requests := rest } })))
    ∧ (∀ (s : State) (r : Request) (rest : List Request) (c : AnswerCode), Serves s r rest →
        decodeRequest r.payload = .bad c → exec .unknownRequest s = .next (answered r rest ⟨c, []⟩ s))
    ∧ (∀ payload : List Byte, payload.length < 2 → decodeRequest payload = .bad .range)
    ∧ (∀ (tag code : Byte) (args : List Byte), (code = 0 ∨ 15 < code.toNat) →
        decodeRequest (tag :: code :: args) = .bad .unknown)
    ∧ (∀ (tag code : Byte), (code = 1 ∨ code = 2 ∨ code = 12 ∨ code = 13) →
        decodeRequest [tag, code] = .bad .range)
    ∧ (∀ (tag code table : Byte) (args : List Byte), (code = 1 ∨ code = 2) → 7 < table.toNat →
        decodeRequest (tag :: code :: table :: args) = .bad .unknown)
    ∧ (∀ (tag code group : Byte) (args : List Byte), (code = 12 ∨ code = 13) → 4 < group.toNat →
        decodeRequest (tag :: code :: group :: args) = .bad .unknown)
    ∧ (∀ (tag code : Byte) (args : List Byte),
        (code = 3 ∨ code = 4 ∨ code = 6 ∨ code = 7 ∨ code = 9 ∨ code = 10 ∨ code = 11) → args ≠ [] →
        decodeRequest (tag :: code :: args) = .bad .range)
    ∧ (∀ tag : Byte,
        decodeRequest [tag, 3] = .start ∧ decodeRequest [tag, 4] = .stop ∧ decodeRequest [tag, 6] = .clearFault
          ∧ decodeRequest [tag, 7] = .softReset ∧ decodeRequest [tag, 9] = .holdFeed
          ∧ decodeRequest [tag, 10] = .releaseFeed ∧ decodeRequest [tag, 11] = .readStatus)
    ∧ (∀ (tag table : Byte) (t : TableId) (size : Option Nat),
        table.toNat = (match t with
          | .line => 0
          | .station => 1
          | .band => 2
          | .bank => 3
          | .recipe set => 4 + set.val
          | .track => 6
          | .windows => 7) →
        size = (match t with
          | .line => some 29
          | .station => some 14
          | .band => some 8
          | .bank => some 32
          | .recipe _ => some 18
          | .track => none
          | .windows => none) →
        (∀ bank hi lo count : Byte, decodeRequest [tag, 1, table, bank, hi, lo, count] =
            .readTable t bank.toNat (hi ++ lo).toNat count.toNat)
          ∧ (∀ args : List Byte, args.length ≠ 4 → decodeRequest (tag :: 1 :: table :: args) = .bad .range)
          ∧ (∀ (index : Byte) (entry : List Byte), size = none ∨ size = some entry.length →
            decodeRequest (tag :: 2 :: table :: index :: entry) = .writeTable t index.toNat entry)
          ∧ (∀ (index : Byte) (entry : List Byte) (n : Nat), size = some n → entry.length ≠ n →
            decodeRequest (tag :: 2 :: table :: index :: entry) = .bad .range)
          ∧ decodeRequest [tag, 2, table] = (if size = none then .writeTable t 0 [] else .bad .range))
    ∧ (∀ (tag port role hi lo : Byte),
        decodeRequest [tag, 5, port, role, hi, lo] = .prove port.toNat role.toNat (hi ++ lo).toNat)
    ∧ (∀ tag set : Byte, decodeRequest [tag, 8, set] = .selectSet set.toNat)
    ∧ (∀ (tag group : Byte) (g : GroupId),
        group.toNat = (match g with
          | .intake => 0
          | .tally set => 1 + set.val
          | .bank => 3
          | .link => 4) →
        (∀ bank : Byte, decodeRequest [tag, 12, group, bank] = .readCounters g bank.toNat
            ∧ decodeRequest [tag, 13, group, bank] = .clearCounters g bank.toNat)
          ∧ ∀ args : List Byte, args.length ≠ 1 →
            decodeRequest (tag :: 12 :: group :: args) = .bad .range
              ∧ decodeRequest (tag :: 13 :: group :: args) = .bad .range)
    ∧ (∀ tag hi lo : Byte, decodeRequest [tag, 14, hi, lo] = .clearEvents ((hi ++ lo).setWidth 15)
        ∧ decodeRequest [tag, 15, hi, lo] = .setMask ((hi ++ lo).setWidth 15))
    ∧ ∀ (tag : Byte) (args : List Byte),
        (args.length ≠ 4 → decodeRequest (tag :: 5 :: args) = .bad .range)
          ∧ (args.length ≠ 1 → decodeRequest (tag :: 8 :: args) = .bad .range)
          ∧ (args.length ≠ 2 → decodeRequest (tag :: 14 :: args) = .bad .range
              ∧ decodeRequest (tag :: 15 :: args) = .bad .range)

/-- READ_LINE, READ_STATION, READ_BAND, READ_BANK, READ_RECIPE, READ_TRACK and READ_WINDOWS (R36, R52, R64, R79, R116,
R119, R174, R175): the answer, and nothing else changed. The TRACK item of 34 bytes and the WINDOWS record of 39 bytes,
field by field (R194, R195). -/
def Obligations.TableReadsAnswerTheEntries : Prop :=
  (∀ i : Item,
      i.bytes.length = 34
        ∧ fld i.bytes 0 2 = i.id.toNat ∧ fld i.bytes 2 4 = i.entryPos.toNat
        ∧ i.bytes.getD 6 0 = BitVec.ofNat 8 i.laneLo ∧ i.bytes.getD 7 0 = BitVec.ofNat 8 i.laneHi
        ∧ i.bytes.getD 8 0 = BitVec.ofNat 8 i.centroid ∧ i.bytes.getD 9 0 = (if i.centroidSent then 1 else 0)
        ∧ fld i.bytes 10 4 = i.leadPos.toNat ∧ fld i.bytes 14 4 = i.trailPos.toNat ∧ fld i.bytes 18 2 = i.cls.toNat
        ∧ fld i.bytes 20 2 = i.area % 65536 ∧ i.bytes.getD 22 0 = BitVec.ofNat 8 i.confidence
        ∧ i.bytes.getD 23 0 = (if i.tag = none then 0 else 1)
        ∧ fld i.bytes 24 4 = (match i.tag with
          | none => 0
          | some v => v.toNat)
        ∧ i.bytes.getD 28 0 = (if i.touching then 1 else 0) ∧ i.bytes.getD 29 0 = (if i.atEdge then 1 else 0)
        ∧ i.bytes.getD 30 0 = (if i.clipped then 1 else 0) ∧ (i.bytes.getD 31 0).toNat = i.recipeSet.val
        ∧ i.bytes.getD 32 0 = BitVec.ofNat 8 i.rule ∧ (i.bytes.getD 33 0).toNat = i.pendingBanks.toNat)
    ∧ (∀ w : Window,
      w.bytes.length = 39
        ∧ fld w.bytes 0 2 = w.item.toNat
        ∧ w.bytes.getD 2 0 = (match w.kind with
          | .eject => 1
          | .protect => 2)
        ∧ w.bytes.getD 3 0 = BitVec.ofNat 8 w.lo ∧ w.bytes.getD 4 0 = BitVec.ofNat 8 w.hi
        ∧ fld w.bytes 5 4 = w.openPos.toNat ∧ fld w.bytes 9 4 = w.closePos.toNat
        ∧ w.bytes.getD 13 0 = BitVec.ofNat 8 w.priority
        ∧ w.bytes.getD 14 0 = (match w.state with
          | .waiting => 0
          | .opened => 1)
        ∧ w.bytes.getD 15 0 = (if w.trimmed then 1 else 0)
        ∧ fld w.bytes 16 2 = w.due.toNat ∧ fld w.bytes 18 2 = w.full.toNat ∧ fld w.bytes 20 2 = w.any.toNat
        ∧ w.bytes.getD 22 0 = (if w.protectDenied then 1 else 0)
        ∧ ∀ k, k < 128 → (w.bytes.getD (23 + k / 8) 0).getLsbD (k % 8) = w.truncated.getLsbD k)
    ∧ ∀ (s : State) (r : Request) (rest : List Request) (bank first count : Nat), Serves s r rest →
      (decodeRequest r.payload = .readTable .line bank first count →
        exec .readLine s = .next (answered r rest (tableRead 0 bank first count 1 [] [s.mgmt.line.bytes]) s))
        ∧ (decodeRequest r.payload = .readTable .station bank first count →
          exec .readStation s = .next (answered r rest (tableRead 1 bank first count 1 [] [s.station.entry.bytes]) s))
        ∧ (decodeRequest r.payload = .readTable .band bank first count →
          exec .readBand s = .next
            (answered r rest (tableRead 2 bank first count 8 [] (s.station.bands.toList.map BandEntry.bytes)) s))
        ∧ (decodeRequest r.payload = .readTable .bank bank first count →
          exec .readBank s = .next
            (answered r rest (tableRead 3 bank first count 4 [] (s.banks.toList.map fun u => u.desc.bytes)) s))
        ∧ (∀ set : Fin 2, decodeRequest r.payload = .readTable (.recipe set) bank first count →
          exec .readRecipe s = .next
            (answered r rest
              (tableRead (4 + set.val) bank first count 8 [BitVec.ofNat 8 s.cls.active.val]
                (s.cls.sets[set].rules.toList.map Rule.bytes
                  ++ [Rule.bytes ⟨false, 0, 0, 0, 65535, 0, 0, 191, s.cls.sets[set].dflt⟩])) s))
        ∧ (decodeRequest r.payload = .readTable .track bank first count →
          exec .readTrack s = .next
            (answered r rest (tableRead 6 bank first count 6 [] (s.track.map Item.bytes)) s))
        ∧ (∀ b : BankIx, b.val = bank → decodeRequest r.payload = .readTable .windows bank first count →
          exec .readWindows s = .next
            (answered r rest (tableRead 7 bank first count 5 [] ((s.bank b).windows.map Window.bytes)) s))
        ∧ (3 < bank → decodeRequest r.payload = .readTable .windows bank first count →
          exec .readWindows s = .next (answered r rest ⟨.index, []⟩ s))

/-- READ_STATUS with its 73 bytes, field by field; READ_COUNTERS and CLEAR_COUNTERS, with the order of the counters in each
group and their bytes (R112, R171, R176 to R178, R193 to R195). That an OK answer to READ COUNTERS echoes the sent bank byte for a
group other than BANK, where R193 ignores it, is the model's choice, log 30. -/
def Obligations.StatusAndCounterRequests : Prop :=
  (∀ (cs : List Counter) (k : Nat), (counterBytes cs).length = 4 * cs.length
      ∧ fld (counterBytes cs) (4 * k) 4 = (cs.getD k 0).toNat)
    ∧ (∀ c : IntakeCounters, c.list =
      [c.frames, c.records, c.entered, c.passed, c.refusedMode, c.refusedMalformed, c.refusedStale, c.refusedSkew,
        c.refusedOverflow, c.laneClamped, c.clipped, c.framesDropped])
    ∧ (∀ c : BankCounters, c.list =
      [c.created, c.uncovered, c.fired, c.partialServed, c.suppressed, c.missed, c.kept, c.breached, c.late, c.dropped,
        c.abandoned, c.budgetDenied, c.airLow, c.coilTrips])
    ∧ (∀ s : State, linkCounters s =
      [(s.link .u).retrains, (s.link .d).retrains, (s.link .u).codeErrors, (s.link .d).codeErrors,
        (s.link .u).warnings, (s.link .d).warnings, (s.link .u).badFrames, (s.link .d).badFrames,
        (s.link .u).misdirected, (s.link .d).misdirected, s.portD.unknownSource, s.portD.relayDrops,
        s.portD.fireOverruns, s.portU.relayDrops, s.portU.returnDrops])
    ∧ (∀ (s : State) (r : Request) (rest : List Request), Serves s r rest → decodeRequest r.payload = .readStatus →
      exec .readStatus s = .next (answered r rest ⟨.ok, statusBytes s⟩ s)
        ∧ ∀ bytes : List Byte, bytes = statusBytes s →
          bytes.length = 73
            ∧ bytes.getD 0 0 = (match s.mc.mode with
              | .standby => 0
              | .run => 1
              | .drain => 2
              | .test => 3
              | .fault => 4)
            ∧ bytes.getD 1 0 = (match s.mc.cause with
              | .none => 0
              | .estop => 1
              | .encoder => 2
              | .reverse => 3)
            ∧ bytes.getD 2 0 = (if s.mc.blindStart = none then 0 else 1)
            ∧ fld bytes 3 4 = (match s.mc.blindStart with
              | none => 0
              | some v => v.toNat)
            ∧ bytes.getD 7 0 = (if s.mc.blindEnd = none then 0 else 1)
            ∧ fld bytes 8 4 = (match s.mc.blindEnd with
              | none => 0
              | some v => v.toNat)
            ∧ (∀ (p : PortId) (i : Nat), i = (match p with
                | .u => 12
                | .d => 14) →
              bytes.getD i 0 = (match (s.link p).state with
                | .down => 0
                | .training => 1
                | .linked => 2
                | .proving => 3)
                ∧ bytes.getD (i + 1) 0 = (if (s.link p).warning then 1 else 0))
            ∧ fld bytes 16 4 = s.pos.tp.toNat ∧ fld bytes 20 4 = s.pos.e.toNat ∧ fld bytes 24 2 = s.pos.w % 65536
            ∧ bytes.getD 26 0 = (if s.pos.stall = .moving then 0 else 1)
            ∧ fld bytes 27 2 = s.track.length % 65536
            ∧ (∀ b : BankIx, fld bytes (29 + 5 * b.val) 2 = (s.bank b).windows.length % 65536
              ∧ fld bytes (31 + 5 * b.val) 2 = (s.bank b).airLow % 65536
              ∧ bytes.getD (33 + 5 * b.val) 0 = (if (s.bank b).inhibit then 1 else 0))
            ∧ (bytes.getD 49 0).toNat = s.station.band.val ∧ fld bytes 50 4 = s.station.b % 4294967296
            ∧ fld bytes 54 2 = s.station.setpoint % 65536
            ∧ (∀ k, k < 8 → (bytes.getD 56 0).getLsbD k =
              [s.station.holds.mode, s.station.holds.occupancy, s.station.holds.blind, s.station.holds.actuator,
                s.station.holds.air, s.station.holds.operator].getD k false)
            ∧ bytes.getD 57 0 = (if s.station.command = .release then 0 else 1)
            ∧ fld bytes 58 2 = s.mgmt.flags.toNat ∧ fld bytes 60 2 = s.mgmt.mask.toNat
            ∧ (s.proving.result = none → bytes.drop 62 = List.replicate 11 0)
            ∧ ∀ v : ProvingResult, s.proving.result = some v →
              bytes.getD 62 0 = 1
                ∧ bytes.getD 63 0 = (if v.port = .u then 0 else 1)
                ∧ bytes.getD 64 0 = (if v.role = .generate then 0 else 1)
                ∧ fld bytes 65 2 = v.duration % 65536 ∧ fld bytes 67 4 = v.mismatches.toNat
                ∧ bytes.getD 71 0 = (if v.errorSeen then 1 else 0)
                ∧ bytes.getD 72 0 = (match v.status with
                  | .running => 0
                  | .generated => 1
                  | .noPattern => 2
                  | .clean => 3
                  | .errors => 4))
    ∧ (∀ (s : State) (r : Request) (rest : List Request) (g : GroupId) (bank : Nat), Serves s r rest →
        decodeRequest r.payload = .readCounters g bank →
        (g = .intake → exec .readCounters s = .next
          (answered r rest ⟨.ok, [0, BitVec.ofNat 8 bank] ++ counterBytes s.intake.counters.list⟩ s))
          ∧ (∀ set : Fin 2, g = .tally set → exec .readCounters s = .next
            (answered r rest
              ⟨.ok, [1 + BitVec.ofNat 8 set.val, BitVec.ofNat 8 bank] ++ counterBytes s.cls.tallies[set].toList⟩ s))
          ∧ (∀ b : BankIx, g = .bank → b.val = bank → exec .readCounters s = .next
            (answered r rest ⟨.ok, [3, BitVec.ofNat 8 bank] ++ counterBytes (s.bank b).counters.list⟩ s))
          ∧ (g = .bank → 3 < bank → exec .readCounters s = .next (answered r rest ⟨.index, []⟩ s))
          ∧ (g = .link → exec .readCounters s = .next
            (answered r rest ⟨.ok, [4, BitVec.ofNat 8 bank] ++ counterBytes (linkCounters s)⟩ s)))
    ∧ ∀ (s : State) (r : Request) (rest : List Request) (g : GroupId) (bank : Nat), Serves s r rest →
        decodeRequest r.payload = .clearCounters g bank →
        (g = .intake → exec .clearCounters s = .next
          (answered r rest ⟨.ok, []⟩
            { s with intake := { s.intake with counters := ⟨0, 0, 0, 0, 0, 0, 0, 0, 0, 0, 0, 0⟩ } }))
          ∧ (∀ set : Fin 2, g = .tally set → exec .clearCounters s = .next
            (answered r rest ⟨.ok, []⟩
              { s with cls := { s.cls with tallies := s.cls.tallies.set set (Vector.replicate 49 0) } }))
          ∧ (∀ b : BankIx, g = .bank → b.val = bank → exec .clearCounters s = .next
            (answered r rest ⟨.ok, []⟩
              (s.setBank b { s.bank b with counters :=
                ⟨BitVec.ofNat 32 (s.bank b).windows.length, 0, 0, 0, 0, 0, 0, 0, 0, 0, 0, 0, 0, 0⟩ })))
          ∧ (g = .bank → 3 < bank → exec .clearCounters s = .next (answered r rest ⟨.index, []⟩ s))
          ∧ (g = .link → ∃ t, exec .clearCounters s = .next (answered r rest ⟨.ok, []⟩ t)
            ∧ linkCounters t = List.replicate 15 0 ∧ SameOutsidePorts s t ∧ t.handed = s.handed
            ∧ t.portU.queue = s.portU.queue ∧ t.portU.tx = s.portU.tx ∧ t.portD.fire = s.portD.fire
            ∧ t.portD.drive = s.portD.drive ∧ t.portD.relay = s.portD.relay ∧ t.portD.tx = s.portD.tx
            ∧ t.mgmt = s.mgmt ∧ t.proving = s.proving
            ∧ ∀ p, (t.link p).state = (s.link p).state ∧ (t.link p).locked = (s.link p).locked
                ∧ (t.link p).warning = (s.link p).warning ∧ (t.link p).windowErrors = (s.link p).windowErrors
                ∧ (t.link p).lossRun = (s.link p).lossRun ∧ (t.link p).partnerReady = (s.link p).partnerReady
                ∧ (t.link p).signal = (s.link p).signal)

/-- WRITE_LINE, WRITE_STATION, WRITE_BAND, WRITE_BANK and WRITE_RECIPE, the accepted writes (R9, R53, R55, R60, R62, R102,
R116, R118, R119 to R121, R123, R174, R175): the whole entry replaced, OK answered, and the effects of the write. The model's
choice: the order of the frames to several changed nodes of a STATION write (log 28), and that a BANK write taken before
AIR_LOW_HOLD_END first withdraws the report of a hold that ran out (log 19). -/
def Obligations.AcceptedWritesReplaceTheEntry : Prop :=
  ∀ (s : State) (r : Request) (rest : List Request) (bytes : List Byte), Serves s r rest →
    (decodeRequest r.payload = .writeTable .line 0 bytes → s.mc.mode ≠ .run → s.mc.mode ≠ .drain →
      (LineEntry.ofBytes bytes).inRange = true →
      ∃ t, exec .writeLine s = .next (answered r rest ⟨.ok, []⟩ t)
        ∧ t = { s with
            mgmt := { s.mgmt with line := LineEntry.ofBytes bytes }
            pos := { s.pos with
              c := if (LineEntry.ofBytes bytes).slotUs = s.mgmt.line.slotUs then s.pos.c
                else ((LineEntry.ofBytes bytes).slotUs * s.pos.w + 8000) / 16000 } })
      ∧ (∀ (e old : StationEntry) (v : Nat) (t : State), decodeRequest r.payload = .writeTable .station 0 bytes →
        e = StationEntry.ofBytes bytes → e.inRange = true → old = s.station.entry →
        v = clamp s.station.setpoint e.rotMin e.rotMax →
        t = { s with station := { s.station with
            entry := e
            setpoint := v
            target := clamp
              (if s.station.mode = .run ∨ s.station.mode = .drain then s.station.bands[s.station.band].f else e.rotIdle)
              e.rotMin e.rotMax } } →
        ∀ frames : List StationId,
        frames = (if v ≠ s.station.setpoint ∨ e.rotorNode ≠ old.rotorNode then [.rotor] else [])
          ++ (if e.splitterNode ≠ old.splitterNode then [.splitter] else [])
          ++ (if e.feederNode ≠ old.feederNode then [.feeder] else []) →
        exec .writeStation s = .next (answered r rest ⟨.ok, []⟩ (frames.foldl (fun u st => issueDrive st u) t)))
      ∧ (∀ (k : Fin 8) (e : BandEntry) (t : State), decodeRequest r.payload = .writeTable .band k.val bytes →
        e = BandEntry.ofBytes bytes → e.inRange = true →
        t = { s with station := { s.station with
            bands := s.station.bands.set k e
            target := clamp
              (if s.station.mode = .run ∨ s.station.mode = .drain then (s.station.bands.set k e)[s.station.band].f
                else s.station.entry.rotIdle)
              s.station.entry.rotMin s.station.entry.rotMax } } →
        ((k = s.station.band ∧ (s.station.mode = .run ∨ s.station.mode = .drain)
            ∧ e.split ≠ s.station.bands[k].split) →
          exec .writeBand s = .next
            (answered r rest ⟨.ok, []⟩
              (issueDrive .splitter { t with station := { t.station with splitter := e.split } })))
          ∧ (¬ (k = s.station.band ∧ (s.station.mode = .run ∨ s.station.mode = .drain)
              ∧ e.split ≠ s.station.bands[k].split) →
            exec .writeBand s = .next (answered r rest ⟨.ok, []⟩ t)))
      ∧ (∀ (b : BankIx) (e : BankEntry) (air withdrawn : Bool) (t : State),
        decodeRequest r.payload = .writeTable .bank b.val bytes → BankEntry.ofBytes bytes = some e →
        e.inRange = true → (withdrawn = true ↔ (s.bank b).holdEnd = true ∧ (s.bank b).airReport = true) →
        ((s.mc.mode = .run ∨ s.mc.mode = .drain) →
          e.kind = (s.bank b).desc.kind ∧ e.node = (s.bank b).desc.node ∧ e.lanes = (s.bank b).desc.lanes) →
        air = (decide (e.kind = .air ∧ 0 < (s.bank b).airLow) && e.airFeedHold) →
        t = (s.setBank b { s.bank b with desc := e, airReport := air, holdEnd := false }).setBankHanded b
          { s.bankHanded b with air := (s.bankHanded b).air ++ (if withdrawn then [false] else [])
              ++ (if air = ((s.bank b).airReport && !withdrawn) then [] else [air]) } →
        exec .writeBank s = .next (answered r rest ⟨.ok, []⟩ t))
      ∧ (∀ (set : Fin 2) (i : Fin 48) (e : Rule), decodeRequest r.payload = .writeTable (.recipe set) i.val bytes →
        Rule.ofBytes bytes = some e → e.inRange = true →
        ((s.mc.mode = .run ∨ s.mc.mode = .drain) → set ≠ s.cls.active) →
        exec .writeRecipe s = .next
          (answered r rest ⟨.ok, []⟩
            { s with cls := { s.cls with
              sets := s.cls.sets.set set { s.cls.sets[set] with rules := s.cls.sets[set].rules.set i e } } }))
      ∧ (∀ (set : Fin 2) (e : RuleResult), decodeRequest r.payload = .writeTable (.recipe set) 48 bytes →
        RuleResult.ofBytes bytes = some e → e.inRange = true →
        ((s.mc.mode = .run ∨ s.mc.mode = .drain) → set ≠ s.cls.active) →
        exec .writeRecipe s = .next
          (answered r rest ⟨.ok, []⟩
            { s with cls := { s.cls with sets := s.cls.sets.set set { s.cls.sets[set] with dflt := e } } }))

/-- WRITE_TRACK and WRITE_WINDOWS, and the refusals of the other writes in the order of their checks (R36, R53, R54, R60,
R61, R79, R116, R119, R175, R193): the answer, and nothing else changed. -/
def Obligations.RefusedWritesChangeNothing : Prop :=
  ∀ (s : State) (r : Request) (rest : List Request) (i : Nat) (bytes : List Byte) (running : Prop), Serves s r rest →
    (running ↔ s.mc.mode = .run ∨ s.mc.mode = .drain) →
    (decodeRequest r.payload = .writeTable .track i bytes →
      exec .writeTrack s = .next (answered r rest ⟨.index, []⟩ s))
      ∧ (decodeRequest r.payload = .writeTable .windows i bytes →
        exec .writeWindows s = .next (answered r rest ⟨.index, []⟩ s))
      ∧ (decodeRequest r.payload = .writeTable .line i bytes →
        (i ≠ 0 → exec .writeLine s = .next (answered r rest ⟨.index, []⟩ s))
          ∧ (i = 0 → running → exec .writeLine s = .next (answered r rest ⟨.mode, []⟩ s))
          ∧ (i = 0 → ¬ running → (LineEntry.ofBytes bytes).inRange = false →
            exec .writeLine s = .next (answered r rest ⟨.range, []⟩ s)))
      ∧ (decodeRequest r.payload = .writeTable .station i bytes →
        (i ≠ 0 → exec .writeStation s = .next (answered r rest ⟨.index, []⟩ s))
          ∧ (i = 0 → (StationEntry.ofBytes bytes).inRange = false →
            exec .writeStation s = .next (answered r rest ⟨.range, []⟩ s)))
      ∧ (decodeRequest r.payload = .writeTable .band i bytes →
        (7 < i → exec .writeBand s = .next (answered r rest ⟨.index, []⟩ s))
          ∧ (i ≤ 7 → (BandEntry.ofBytes bytes).inRange = false →
            exec .writeBand s = .next (answered r rest ⟨.range, []⟩ s)))
      ∧ (decodeRequest r.payload = .writeTable .bank i bytes →
        (3 < i → exec .writeBank s = .next (answered r rest ⟨.index, []⟩ s))
          ∧ ∀ b : BankIx, b.val = i →
            ((running ∧ (fld bytes 0 1 ≠ (s.bank b).desc.kind.code ∨ fld bytes 1 1 ≠ (s.bank b).desc.node
                ∨ fld bytes 2 1 ≠ (s.bank b).desc.lanes)) →
              exec .writeBank s = .next (answered r rest ⟨.mode, []⟩ s))
              ∧ (¬ (running ∧ (fld bytes 0 1 ≠ (s.bank b).desc.kind.code ∨ fld bytes 1 1 ≠ (s.bank b).desc.node
                  ∨ fld bytes 2 1 ≠ (s.bank b).desc.lanes)) →
                (∀ e, BankEntry.ofBytes bytes = some e → e.inRange = false) →
                exec .writeBank s = .next (answered r rest ⟨.range, []⟩ s)))
      ∧ ∀ set : Fin 2, decodeRequest r.payload = .writeTable (.recipe set) i bytes →
        (48 < i → exec .writeRecipe s = .next (answered r rest ⟨.index, []⟩ s))
          ∧ (i ≤ 48 → running → set = s.cls.active →
            exec .writeRecipe s = .next (answered r rest ⟨.activeSet, []⟩ s))
          ∧ (¬ (running ∧ set = s.cls.active) → i < 48 → (∀ e, Rule.ofBytes bytes = some e → e.inRange = false) →
            exec .writeRecipe s = .next (answered r rest ⟨.range, []⟩ s))
          ∧ (¬ (running ∧ set = s.cls.active) → i = 48 →
            (∀ e, RuleResult.ofBytes bytes = some e → e.inRange = false) →
            exec .writeRecipe s = .next (answered r rest ⟨.range, []⟩ s))

/-- The layout of the entries of WRITE TABLE, field by field (R39, R57, R116, R119, R175, R194): a number stands big-endian in
its bytes; LINE, STATION, BAND, BANK, a rule, and a default rule, with the codes of their choices; the ranges and relations of
each (R54, R61, R116, R119, R175); and an entry within its ranges, as it is read, is read back from its bytes, of the length
that the rule gives. -/
def Obligations.EntriesReadBackAsWritten : Prop :=
  (∀ (bs : List Byte) (i : Nat),
      (i + 1 ≤ bs.length → fld bs i 1 = (bs.getD i 0).toNat)
        ∧ (i + 2 ≤ bs.length → fld bs i 2 = (bs.getD i 0 ++ bs.getD (i + 1) 0).toNat)
        ∧ (i + 3 ≤ bs.length → fld bs i 3 = (bs.getD i 0 ++ bs.getD (i + 1) 0 ++ bs.getD (i + 2) 0).toNat)
        ∧ (i + 4 ≤ bs.length →
          fld bs i 4 = (bs.getD i 0 ++ bs.getD (i + 1) 0 ++ bs.getD (i + 2) 0 ++ bs.getD (i + 3) 0).toNat))
    ∧ (∀ bs : List Byte, LineEntry.ofBytes bs =
      { slotUs := fld bs 0 2, maxItemLen := fld bs 2 2, skewLimit := fld bs 4 2, staleLimit := fld bs 6 3
        stallW := fld bs 9 2, reverseLimit := fld bs 11 2, encFaultLimit := fld bs 13 1, occHigh := fld bs 14 2
        occLow := fld bs 16 2, drainLimit := fld bs 18 3, segLen := fld bs 21 2, linkWarnOn := fld bs 23 2
        linkWarnOff := fld bs 25 2, linkLoss := fld bs 27 2 })
    ∧ (∀ bs : List Byte, StationEntry.ofBytes bs =
      { rotorNode := fld bs 0 1, splitterNode := fld bs 1 1, feederNode := fld bs 2 1, rotMin := fld bs 3 2
        rotMax := fld bs 5 2, rotIdle := fld bs 7 2, slew := fld bs 9 2, h := fld bs 11 3 })
    ∧ (∀ bs : List Byte, BandEntry.ofBytes bs = { t := fld bs 0 4, f := fld bs 4 2, split := fld bs 6 2 })
    ∧ (∀ (bs : List Byte) (e : BankEntry), BankEntry.ofBytes bs = some e ↔
      fld bs 0 1 = (match e.kind with
          | .disabled => 0
          | .air => 1
          | .coil => 2)
        ∧ e.node = fld bs 1 1 ∧ e.lanes = fld bs 2 1 ∧ e.laneBase = fld bs 3 1 ∧ e.sensorsPerLane = fld bs 4 1
        ∧ e.spread = fld bs 5 1 ∧ e.reach = fld bs 6 3 ∧ e.leadUs = fld bs 9 2 ∧ e.pre = fld bs 11 2
        ∧ e.post = fld bs 13 2 ∧ e.minSlots = fld bs 15 1 ∧ e.maxSlots = fld bs 16 1
        ∧ e.recoverySlots = fld bs 17 1
        ∧ fld bs 18 1 = (match e.longPolicy with
          | .chop => 0
          | .truncate => 1)
        ∧ fld bs 19 1 = (match e.conflict with
          | .protectFirst => 0
          | .ejectFirst => 1
          | .byPriority => 2)
        ∧ e.budget = fld bs 20 1 ∧ e.reserveBudget = fld bs 21 1 ∧ e.reservePriority = fld bs 22 1
        ∧ fld bs 23 1 = (if e.airFeedHold then 1 else 0) ∧ e.heatOn = fld bs 24 2 ∧ e.cool = fld bs 26 2
        ∧ e.heatTrip = fld bs 28 2 ∧ e.heatResume = fld bs 30 2)
    ∧ (∀ (bs : List Byte) (e : RuleResult), RuleResult.ofBytes bs = some e ↔
      (∀ b : Fin 4, fld bs (12 + b.val) 1 = (match e.actions[b] with
          | .none => 0
          | .eject => 1
          | .protect => 2))
        ∧ e.priority = fld bs 16 1 ∧ e.burdenWeight = fld bs 17 1)
    ∧ (∀ (bs : List Byte) (e : Rule), Rule.ofBytes bs = some e ↔
      fld bs 0 1 = (if e.enabled then 1 else 0) ∧ e.classMask.toNat = fld bs 1 2 ∧ e.classValue.toNat = fld bs 3 2
        ∧ e.areaMin = fld bs 5 2 ∧ e.areaMax = fld bs 7 2 ∧ e.confMin = fld bs 9 1 ∧ e.zoneLo = fld bs 10 1
        ∧ e.zoneHi = fld bs 11 1 ∧ RuleResult.ofBytes bs = some e.result)
    ∧ (∀ e : LineEntry, (e.inRange = true ↔
        (100 ≤ e.slotUs ∧ e.slotUs ≤ 2000) ∧ (16 ≤ e.maxItemLen ∧ e.maxItemLen ≤ 65535) ∧ e.skewLimit ≤ 4095
          ∧ e.staleLimit ≤ 1048575 ∧ e.stallW ≤ 1023 ∧ e.reverseLimit ≤ 65535
          ∧ (1 ≤ e.encFaultLimit ∧ e.encFaultLimit ≤ 255) ∧ (1 ≤ e.occHigh ∧ e.occHigh ≤ 1024) ∧ e.occLow < e.occHigh
          ∧ (1 ≤ e.drainLimit ∧ e.drainLimit ≤ 16777215) ∧ (256 ≤ e.segLen ∧ e.segLen ≤ 65535)
          ∧ (1 ≤ e.linkWarnOn ∧ e.linkWarnOn ≤ 65535) ∧ e.linkWarnOff < e.linkWarnOn
          ∧ 1 ≤ e.linkLoss ∧ e.linkLoss ≤ 65535)
      ∧ (e.inRange = true → LineEntry.ofBytes e.bytes = e ∧ e.bytes.length = 29))
    ∧ (∀ e : StationEntry, (e.inRange = true ↔
        (∀ n ∈ [e.rotorNode, e.splitterNode, e.feederNode], 16 ≤ n ∧ n ≤ 62) ∧ e.rotMin ≤ e.rotMax ∧ e.rotMax ≤ 1500
          ∧ e.rotIdle ≤ 1500 ∧ (1 ≤ e.slew ∧ e.slew ≤ 500) ∧ e.h ≤ 16777215)
      ∧ (e.inRange = true → StationEntry.ofBytes e.bytes = e ∧ e.bytes.length = 14))
    ∧ (∀ e : BandEntry, (e.inRange = true ↔ e.t ≤ 134217720 ∧ e.f ≤ 1500 ∧ e.split ≤ 1000)
      ∧ (e.inRange = true → BandEntry.ofBytes e.bytes = e ∧ e.bytes.length = 8))
    ∧ (∀ e : BankEntry, (e.inRange = true ↔
        (16 ≤ e.node ∧ e.node ≤ 62) ∧ (1 ≤ e.lanes ∧ e.lanes ≤ 128) ∧ e.laneBase ≤ 191
          ∧ (1 ≤ e.sensorsPerLane ∧ e.sensorsPerLane ≤ 8) ∧ e.spread ≤ 3 ∧ e.reach ≤ 1048575 ∧ e.leadUs ≤ 20000
          ∧ e.pre ≤ 1023 ∧ e.post ≤ 1023 ∧ (1 ≤ e.minSlots ∧ e.minSlots ≤ 16)
          ∧ (e.minSlots ≤ e.maxSlots ∧ e.maxSlots ≤ 255) ∧ e.recoverySlots ≤ 255
          ∧ (1 ≤ e.budget ∧ e.budget ≤ e.lanes) ∧ e.reserveBudget ≤ e.budget ∧ e.reservePriority ≤ 7
          ∧ e.heatOn ≤ 4095 ∧ e.cool ≤ 4095 ∧ (1 ≤ e.heatTrip ∧ e.heatTrip ≤ 65535) ∧ e.heatResume < e.heatTrip)
      ∧ (e.inRange = true → BankEntry.ofBytes e.bytes = some e ∧ e.bytes.length = 32))
    ∧ (∀ e : Rule, (e.inRange = true ↔
        e.areaMin ≤ e.areaMax ∧ e.areaMax ≤ 65535 ∧ e.confMin ≤ 255 ∧ e.zoneLo ≤ e.zoneHi ∧ e.zoneHi ≤ 191
          ∧ e.result.inRange = true)
      ∧ (e.inRange = true → Rule.ofBytes e.bytes = some e ∧ e.bytes.length = 18))
    ∧ ∀ e : RuleResult, (e.inRange = true ↔ e.priority ≤ 7 ∧ e.burdenWeight ≤ 15)
      ∧ (e.inRange = true → RuleResult.ofBytes (RuleResult.asRule e).bytes = some e)

/-- START, STOP, PROVE and CLEAR_FAULT (R136, R138, R142, R149, R151, R165, R168, R193). A PROVE changes, of its port, the state,
the warning and a CHECK run's lock; on a port that is not LINKED nothing else changes but the proving run and the mode: not the
other port, the arbiter, the queues or the lanes (R165). That a notice of the request's
effect (a STOP with an empty track, a PROVE on a LINKED port) is queued before its answer is the model's choice, log 7;
STOPn is read from the command's operand, log 8. A STOP in DRAIN flushes into STANDBY, the banks taking it with the flush
(`flushInto`, opened by ChangesOfModeAreHandedOn), log 5. -/
def Obligations.ModeRequests : Prop :=
  ∀ (s : State) (r : Request) (rest : List Request) (inUse : List Nat), Serves s r rest →
    inUse = (s.banks.toList.filter fun u => decide (u.desc.kind ≠ .disabled)).map (fun u => u.desc.node) →
    (decodeRequest r.payload = .start →
      (s.mc.mode ≠ .standby → exec .start s = .next (answered r rest ⟨.mode, []⟩ s))
        ∧ (s.mc.mode = .standby →
          ((s.link .u).state ≠ .linked → exec .start s = .next (answered r rest ⟨.notReady, [1]⟩ s))
            ∧ ((s.link .u).state = .linked →
              ((s.link .d).state ≠ .linked → exec .start s = .next (answered r rest ⟨.notReady, [2]⟩ s))
                ∧ ((s.link .d).state = .linked →
                  (inUse = [] → exec .start s = .next (answered r rest ⟨.notReady, [3]⟩ s))
                    ∧ (inUse ≠ [] → ¬ inUse.Nodup →
                      exec .start s = .next (answered r rest ⟨.notReady, [4]⟩ s))
                    ∧ (inUse ≠ [] → inUse.Nodup →
                      exec .start s = .next (answered r rest ⟨.ok, []⟩ (changeMode .run s)))))))
      ∧ (decodeRequest r.payload = .stop →
        (s.mc.mode ≠ .run → s.mc.mode ≠ .drain → exec .stop s = .next (answered r rest ⟨.mode, []⟩ s))
          ∧ (s.mc.mode = .drain →
            exec .stop s = .next (answered r rest ⟨.ok, []⟩ (flushInto .standby s)))
          ∧ (s.mc.mode = .run → s.track ≠ [] →
            exec .stop s = .next
              (answered r rest ⟨.ok, []⟩ (changeMode .drain { s with mc := { s.mc with drainStart := s.pos.tp } })))
          ∧ (s.mc.mode = .run → s.track = [] →
            exec .stop s = .next
              (answered r rest ⟨.ok, []⟩
                (raise [.drained] (changeMode .standby { s with mc := { s.mc with drainStart := s.pos.tp } })))))
      ∧ (∀ stop, decodeRequest r.payload = .clearFault →
        (s.mc.mode ≠ .fault → exec (.clearFault stop) s = .next (answered r rest ⟨.mode, []⟩ { s with stopn := stop }))
          ∧ (s.mc.mode = .fault → stop = .asserted →
            exec (.clearFault stop) s = .next (answered r rest ⟨.notReady, [5]⟩ { s with stopn := stop }))
          ∧ (s.mc.mode = .fault → stop = .deasserted →
            exec (.clearFault stop) s = .next
              (answered r rest ⟨.ok, []⟩
                (changeMode .standby
                  { s with
                    stopn := stop, mc := { s.mc with cause := .none }, pos := { s.pos with illegal := 0 } }))))
      ∧ ∀ port role duration : Nat, decodeRequest r.payload = .prove port role duration →
        (s.mc.mode ≠ .standby → exec .prove s = .next (answered r rest ⟨.mode, []⟩ s))
          ∧ (s.mc.mode = .standby → (1 < port ∨ 1 < role ∨ duration = 0) →
            exec .prove s = .next (answered r rest ⟨.range, []⟩ s))
          ∧ (s.mc.mode = .standby → port ≤ 1 → role ≤ 1 → duration ≠ 0 → s.proving.run ≠ none →
            exec .prove s = .next (answered r rest ⟨.notReady, [6]⟩ s))
          ∧ ∀ (p : PortId) (ro : ProvingRole), (p = .u ↔ port = 0) → (ro = .generate ↔ role = 0) →
            s.mc.mode = .standby → port ≤ 1 → role ≤ 1 → duration ≠ 0 → s.proving.run = none →
            ∃ t u, exec .prove s = .next (answered r rest ⟨.ok, []⟩ (changeMode .test u)) ∧ t = changeMode .test u
              ∧ t.mc.mode = .test ∧ (u.link p).state = .proving
              ∧ (ro = .check → (u.link p).locked = false) ∧ (ro = .generate → (u.link p).locked = (s.link p).locked)
              ∧ (u.link p).retrains = (s.link p).retrains ∧ (u.link p).warning = false
              ∧ u.proving = ⟨some ⟨p, ro, if ro = .generate then .generator (BitVec.allOnes 15) else .checker .fresh⟩,
                  some ⟨p, ro, duration, 0, false, .running⟩⟩
              ∧ ((s.link p).state = .linked → LeftLinked p [] s u)
              ∧ u.link p = { s.link p with
                  state := .proving, locked := if ro = .check then false else (s.link p).locked, warning := false }
              ∧ ((s.link p).state ≠ .linked → u.handed = s.handed ∧ u.mgmt = s.mgmt
                ∧ u.portU.queue = s.portU.queue ∧ u.portD.fire = s.portD.fire
                ∧ u = { s.setLink p (u.link p) with proving := u.proving })
              ∧ SameOutsidePorts s u

/-- SOFT_RESET (R179) and SOFT_RESET_PERFORMED (R110, R115, R133, R152, R170, R180): the answer and when the reset is
due; what every block holds after it, and which reports under way it drops and keeps; and an emergency stop after it, as
EMERGENCY_STOP takes it, when STOPn is asserted. The answer kept, the feeder's
frame and the all-off frames go on their lanes when these are free. Performing it as one step, what it does with an answer
that found the queue full, which reports under way it drops, and that a free lane starts a frame in the same step, are the
model's choice, logs 6, 8, 12 and 17; the order of the all-off frames, log 28; that the banks take FAULT with its flush,
log 5. -/
def Obligations.SoftResetClearsAllButTheConfiguration : Prop :=
  (∀ (s : State) (r : Request) (rest : List Request) (f : Frame), Serves s r rest →
      decodeRequest r.payload = .softReset → f = ⟨r.src, .answer, [r.payload.getD 0 0, r.payload.getD 1 0, 0]⟩ →
      (∀ x ∈ s.portU.queue, x.isResetAnswer = false) → (∀ x, s.portU.tx = some x → x.isResetAnswer = false) →
      (s.portU.queue.length < 8 →
        exec .softReset s = .next
          (offerReturn { s with
            portU := { s.portU with queue := s.portU.queue ++ [.resetAnswer f] }
            mgmt := { s.mgmt with softReset := if (s.link .u).state = .linked then .waiting else .due none } }))
        ∧ (8 ≤ s.portU.queue.length →
          exec .softReset s = .next { s with mgmt := { s.mgmt with softReset := .due (some f) } }))
    ∧ (∀ (s : State) (kept : Option Frame), s.inReset = false → s.mgmt.softReset = .due kept →
        ∃ t, exec (.softResetPerformed .deasserted) s = .next t
          ∧ t.mc = ⟨.standby, .none, 0, none, none⟩ ∧ t.stopn = .deasserted
          ∧ t.pos = { s.pos with illegal := 0 }
          ∧ t.intake = ⟨[], 0, ⟨0, 0, 0, 0, 0, 0, 0, 0, 0, 0, 0, 0⟩⟩
          ∧ t.cls = { s.cls with tallies := Vector.replicate 2 (Vector.replicate 49 0) } ∧ t.track = []
          ∧ (∀ b, (t.bank b).desc = (s.bank b).desc ∧ (t.bank b).mode = .standby ∧ (t.bank b).windows = []
              ∧ (t.bank b).lanes = Vector.replicate 128 ⟨0, 0, 0, 0, .normal⟩ ∧ (t.bank b).composed = 0
              ∧ (t.bank b).latched = 0 ∧ (t.bank b).airLow = (s.bank b).airLow
              ∧ (t.bank b).inhibit = (s.bank b).inhibit ∧ (t.bank b).holdEnd = false
              ∧ ((t.bank b).airReport = true ↔ (s.bank b).desc.kind = .air ∧ 0 < (s.bank b).airLow
                ∧ (s.bank b).desc.airFeedHold = true)
              ∧ (t.bank b).counters = ⟨0, 0, 0, 0, 0, 0, 0, 0, 0, 0, 0, 0, 0, 0⟩)
          ∧ t.handed = { s.handed with
              occupancy := [], stationModes := []
              banks := s.handed.banks.map fun h => { h with modes := [], retired := [], air := [] } }
          ∧ t.station.mode = .standby ∧ t.station.portULinked = s.station.portULinked
          ∧ (∀ b : BankIx, t.station.airBanks.getLsbD b.val = true ↔ (s.bank b).desc.kind = .air ∧ 0 < (s.bank b).airLow
              ∧ (s.bank b).desc.airFeedHold = true)
          ∧ t.station.current = 0 ∧ t.station.closed = Vector.replicate 7 0 ∧ t.station.b = 0 ∧ t.station.band = 0
          ∧ t.station.bands = s.station.bands ∧ t.station.entry = s.station.entry
          ∧ t.station.setpoint = s.station.setpoint ∧ t.station.splitter = s.station.splitter
          ∧ t.station.target =
              clamp s.station.entry.rotIdle s.station.entry.rotMin s.station.entry.rotMax
          ∧ t.station.command = .hold ∧ t.station.holds.mode = true ∧ t.station.holds.occupancy = false
          ∧ t.station.holds.blind = false ∧ t.station.holds.operator = false
          ∧ (t.station.holds.actuator = true ↔ (t.link .d).state ≠ .linked)
          ∧ (t.station.holds.air = true ↔ ∃ b, (s.bank b).desc.kind = .air ∧ 0 < (s.bank b).airLow
              ∧ (s.bank b).desc.airFeedHold = true)
          ∧ t.portD.fire = Vector.replicate 4 none ∧ t.portD.relay = []
          ∧ (∀ hold : Frame, hold = ⟨BitVec.ofNat 6 s.station.entry.feederNode, .drive, [3, 0, 1]⟩ →
              (s.station.command = .release → (t.link .d).state = .linked → s.portD.tx = none →
                  t.portD.tx = some (.own hold) ∧ t.portD.drive = [])
                ∧ (s.station.command = .release → (t.link .d).state = .linked → s.portD.tx ≠ none →
                  t.portD.tx = s.portD.tx ∧ t.portD.drive = [(.feeder, hold)])
                ∧ (s.station.command = .hold ∨ (t.link .d).state ≠ .linked →
                  t.portD.tx = s.portD.tx ∧ t.portD.drive = []))
          ∧ (∀ answers : List TxFrame,
              answers = s.portU.queue.filter TxFrame.isResetAnswer ++ (kept.map TxFrame.resetAnswer).toList →
              ((t.link .u).state = .linked → s.portU.tx = none →
                  t.portU.tx = answers.head? ∧ t.portU.queue = answers.tail)
                ∧ ((t.link .u).state ≠ .linked ∨ s.portU.tx ≠ none →
                  t.portU.tx = s.portU.tx ∧ t.portU.queue = answers))
          ∧ linkCounters t = List.replicate 15 0 ∧ t.proving = ⟨none, none⟩
          ∧ (∀ p, (∀ run, s.proving.run = some run → run.port ≠ p) →
              (t.link p).state = (s.link p).state ∧ (t.link p).locked = (s.link p).locked
                ∧ (t.link p).partnerReady = (s.link p).partnerReady
                ∧ (t.link p).windowErrors = (s.link p).windowErrors ∧ (t.link p).lossRun = (s.link p).lossRun
                ∧ (t.link p).warning = (s.link p).warning)
          ∧ (∀ run, s.proving.run = some run →
              (t.link run.port).state = (if (s.link run.port).signal = true then .training else .down))
          ∧ t.mgmt = ⟨[], 0, s.mgmt.mask, false, s.mgmt.line, .none⟩ ∧ t.nodeAddr = s.nodeAddr)
    ∧ (∀ (s u : State) (kept : Option Frame), s.inReset = false → s.mgmt.softReset = .due kept →
        exec (.softResetPerformed .deasserted) s = .next u →
          exec (.softResetPerformed .asserted) s = exec .emergencyStop u)
    ∧ ∀ (s : State) (kept : Option Frame), s.inReset = false → s.mgmt.softReset = .due kept →
        ∃ t, exec (.softResetPerformed .asserted) s = .next t
          ∧ t.mc = ⟨.fault, .estop, 0, none, none⟩ ∧ t.mgmt.flags = BitVec.twoPow 15 14 ∧ t.track = []
          ∧ (∀ b, (t.bank b).mode = .fault ∧ (t.bank b).windows = [] ∧ (t.bank b).composed = 0
              ∧ (t.bankHanded b).modes = [])
          ∧ ∀ (b : BankIx) (off : Frame), (s.bank b).desc.kind ≠ .disabled → (t.link .d).state = .linked →
            off = ⟨BitVec.ofNat 6 (s.bank b).desc.node, .fire,
                s.pos.slot :: BitVec.ofNat 8 (s.bank b).desc.lanes
                  :: List.replicate (((s.bank b).desc.lanes + 7) / 8) 0⟩ →
            (s.portD.tx ≠ none ∨ s.station.command = .release → t.portD.fire[b] = some off)
              ∧ (s.portD.tx = none → s.station.command = .hold →
                ((∀ c : BankIx, c < b → (s.bank c).desc.kind = .disabled) →
                    t.portD.tx = some (.own off) ∧ t.portD.fire[b] = none)
                  ∧ ((∃ c : BankIx, c < b ∧ (s.bank c).desc.kind ≠ .disabled) → t.portD.fire[b] = some off))

/-- SELECT_SET (R50), HOLD_FEED and RELEASE_FEED (R130), CLEAR_EVENTS (R184) and SET_MASK (R182). -/
def Obligations.SelectFeedAndEventRequests : Prop :=
  ∀ (s : State) (r : Request) (rest : List Request), Serves s r rest →
    (∀ n : Nat, decodeRequest r.payload = .selectSet n →
      (∀ k : Fin 2, k.val = n →
        exec .selectSet s = .next
          (answered r rest ⟨.ok, [BitVec.ofNat 8 s.cls.active.val, BitVec.ofNat 8 n]⟩
            { s with cls := { s.cls with active := k } }))
        ∧ (1 < n → exec .selectSet s = .next (answered r rest ⟨.range, []⟩ s)))
      ∧ (decodeRequest r.payload = .holdFeed →
        exec .holdFeed s = .next
          (answered r rest ⟨.ok, []⟩ (setHolds { s.station.holds with operator := true } s)))
      ∧ (decodeRequest r.payload = .releaseFeed →
        exec .releaseFeed s = .next
          (answered r rest ⟨.ok, []⟩ (setHolds { s.station.holds with operator := false } s)))
      ∧ (∀ (named flags : BitVec 15) (alert : Bool), decodeRequest r.payload = .clearEvents named →
        (∀ k, k < 15 → flags.getLsbD k = (s.mgmt.flags.getLsbD k && !named.getLsbD k)) →
        (alert = true ↔ ∃ k, k < 15 ∧ flags.getLsbD k = true ∧ s.mgmt.mask.getLsbD k = true) →
        exec .clearEvents s = .next
          (answered r rest ⟨.ok, [BitVec.ofNat 8 (flags.toNat / 256), BitVec.ofNat 8 flags.toNat]⟩
            { s with mgmt := { s.mgmt with flags := flags, alert := alert } }))
      ∧ ∀ (mask : BitVec 15) (alert : Bool), decodeRequest r.payload = .setMask mask →
        (alert = true ↔ ∃ k, k < 15 ∧ s.mgmt.flags.getLsbD k = true ∧ mask.getLsbD k = true) →
        exec .setMask s = .next
          (answered r rest ⟨.ok, []⟩ { s with mgmt := { s.mgmt with mask := mask, alert := alert } })

end Statements
end

