-- ==== Sys2Proof/Laws/State.lean ====
section
/-! SUPPORT. One lemma per field for each named update of the state, true by rfl; so no proof unfolds an update. -/

namespace Sys2Proof.Machine

/-! ## Equality, field by field: for a frame that says a state is another one but for named fields -/

/-- Two states that agree in every field are equal. -/
theorem State.eq_of_fields {s t : State} (h1 : s.pending = t.pending) (h2 : s.inReset = t.inReset)
    (h3 : s.nodeAddr = t.nodeAddr) (h4 : s.stopn = t.stopn) (h5 : s.pos = t.pos) (h6 : s.intake = t.intake)
    (h7 : s.cls = t.cls) (h8 : s.track = t.track) (h9 : s.banks = t.banks) (h10 : s.station = t.station)
    (h11 : s.mc = t.mc) (h12 : s.portU = t.portU) (h13 : s.portD = t.portD) (h14 : s.proving = t.proving)
    (h15 : s.mgmt = t.mgmt) (h16 : s.handed = t.handed) : s = t := by
  cases s; cases t; simp_all

/-- Reports under way that agree in every list are equal. -/
theorem Handed.eq_of_fields {g h : Handed} (h1 : g.detects = h.detects) (h2 : g.requests = h.requests)
    (h3 : g.burden = h.burden) (h4 : g.ring = h.ring) (h5 : g.encoder = h.encoder) (h6 : g.reversal = h.reversal)
    (h7 : g.trackEmpty = h.trackEmpty) (h8 : g.occupancy = h.occupancy) (h9 : g.portUMode = h.portUMode)
    (h10 : g.portUStation = h.portUStation) (h11 : g.portDStation = h.portDStation)
    (h12 : g.portDExpiry = h.portDExpiry) (h13 : g.stationModes = h.stationModes) (h14 : g.banks = h.banks) :
    g = h := by
  cases g; cases h; simp_all

/-! ## Reading a part of the state -/

theorem State.bank_def (s : State) (b : BankIx) : s.banks[b] = s.bank b := rfl

theorem State.bank_of_val (s : State) (b : BankIx) : s.banks[b.val] = s.bank b := rfl

theorem State.bankHanded_def (s : State) (b : BankIx) : s.handed.banks[b] = s.bankHanded b := rfl

theorem State.bankHanded_of_val (s : State) (b : BankIx) : s.handed.banks[b.val] = s.bankHanded b := rfl

@[simp] theorem State.link_u (s : State) : s.link .u = s.portU.link := rfl

@[simp] theorem State.link_d (s : State) : s.link .d = s.portD.link := rfl

theorem State.linked_iff (s : State) (p : PortId) : s.linked p = true ↔ (s.link p).state = .linked := by
  simp [State.linked]

/-- Two states with the same Bank Units have the same Bank Unit of each number. -/
theorem State.bank_congr {s t : State} (h : t.banks = s.banks) (b : BankIx) : t.bank b = s.bank b := by
  simp [State.bank, h]

/-- Two states with the same reports have the same reports of each bank. -/
theorem State.bankHanded_congr {s t : State} (h : t.handed.banks = s.handed.banks) (b : BankIx) :
    t.bankHanded b = s.bankHanded b := by
  simp [State.bankHanded, h]

/-- Two states with the same links have the same link of each port. -/
theorem State.link_congr {s t : State} (hu : t.portU.link = s.portU.link) (hd : t.portD.link = s.portD.link) (p : PortId) :
    t.link p = s.link p := by
  cases p
  · exact hu
  · exact hd

/-- Two states with the same link of a port agree on whether it is LINKED. -/
theorem State.linked_congr {s t : State} {p : PortId} (h : t.link p = s.link p) : t.linked p = s.linked p := by
  simp [State.linked, h]

/-! ## Replacing a Bank Unit -/

@[simp] theorem State.setBank_pending (s : State) (b : BankIx) (u : BankUnit) : (s.setBank b u).pending = s.pending := rfl

@[simp] theorem State.setBank_inReset (s : State) (b : BankIx) (u : BankUnit) : (s.setBank b u).inReset = s.inReset := rfl

@[simp] theorem State.setBank_nodeAddr (s : State) (b : BankIx) (u : BankUnit) : (s.setBank b u).nodeAddr = s.nodeAddr := rfl

@[simp] theorem State.setBank_stopn (s : State) (b : BankIx) (u : BankUnit) : (s.setBank b u).stopn = s.stopn := rfl

@[simp] theorem State.setBank_pos (s : State) (b : BankIx) (u : BankUnit) : (s.setBank b u).pos = s.pos := rfl

@[simp] theorem State.setBank_intake (s : State) (b : BankIx) (u : BankUnit) : (s.setBank b u).intake = s.intake := rfl

@[simp] theorem State.setBank_cls (s : State) (b : BankIx) (u : BankUnit) : (s.setBank b u).cls = s.cls := rfl

@[simp] theorem State.setBank_track (s : State) (b : BankIx) (u : BankUnit) : (s.setBank b u).track = s.track := rfl

@[simp] theorem State.setBank_station (s : State) (b : BankIx) (u : BankUnit) : (s.setBank b u).station = s.station := rfl

@[simp] theorem State.setBank_mc (s : State) (b : BankIx) (u : BankUnit) : (s.setBank b u).mc = s.mc := rfl

@[simp] theorem State.setBank_portU (s : State) (b : BankIx) (u : BankUnit) : (s.setBank b u).portU = s.portU := rfl

@[simp] theorem State.setBank_portD (s : State) (b : BankIx) (u : BankUnit) : (s.setBank b u).portD = s.portD := rfl

@[simp] theorem State.setBank_proving (s : State) (b : BankIx) (u : BankUnit) : (s.setBank b u).proving = s.proving := rfl

@[simp] theorem State.setBank_mgmt (s : State) (b : BankIx) (u : BankUnit) : (s.setBank b u).mgmt = s.mgmt := rfl

@[simp] theorem State.setBank_handed (s : State) (b : BankIx) (u : BankUnit) : (s.setBank b u).handed = s.handed := rfl

@[simp] theorem State.setBank_banks (s : State) (b : BankIx) (u : BankUnit) : (s.setBank b u).banks = s.banks.set b u := rfl

@[simp] theorem State.bank_setBank_self (s : State) (b : BankIx) (u : BankUnit) : (s.setBank b u).bank b = u := by
  simp [State.bank, State.setBank]

theorem State.bank_setBank (s : State) (b c : BankIx) (u : BankUnit) :
    (s.setBank b u).bank c = if b = c then u else s.bank c := by
  simp only [State.bank, State.setBank, Fin.getElem_fin, Vector.getElem_set, Fin.ext_iff]

theorem State.bank_setBank_ne (s : State) {b c : BankIx} (h : c ≠ b) (u : BankUnit) : (s.setBank b u).bank c = s.bank c := by
  rw [State.bank_setBank, if_neg (Ne.symm h)]

@[simp] theorem State.bankHanded_setBank (s : State) (b c : BankIx) (u : BankUnit) : (s.setBank b u).bankHanded c = s.bankHanded c := rfl

@[simp] theorem State.linked_setBank (s : State) (b : BankIx) (u : BankUnit) (p : PortId) : (s.setBank b u).linked p = s.linked p := by cases p <;> rfl

@[simp] theorem State.link_setBank (s : State) (b : BankIx) (u : BankUnit) (p : PortId) : (s.setBank b u).link p = s.link p := by cases p <;> rfl

@[simp] theorem State.setBank_setBank (s : State) (b : BankIx) (u v : BankUnit) :
    (s.setBank b u).setBank b v = s.setBank b v := by
  simp [State.setBank, Vector.set_set]

/-! ## Replacing the reports of a bank -/

@[simp] theorem State.setBankHanded_pending (s : State) (b : BankIx) (h : BankHanded) : (s.setBankHanded b h).pending = s.pending := rfl

@[simp] theorem State.setBankHanded_inReset (s : State) (b : BankIx) (h : BankHanded) : (s.setBankHanded b h).inReset = s.inReset := rfl

@[simp] theorem State.setBankHanded_nodeAddr (s : State) (b : BankIx) (h : BankHanded) : (s.setBankHanded b h).nodeAddr = s.nodeAddr := rfl

@[simp] theorem State.setBankHanded_stopn (s : State) (b : BankIx) (h : BankHanded) : (s.setBankHanded b h).stopn = s.stopn := rfl

@[simp] theorem State.setBankHanded_pos (s : State) (b : BankIx) (h : BankHanded) : (s.setBankHanded b h).pos = s.pos := rfl

@[simp] theorem State.setBankHanded_intake (s : State) (b : BankIx) (h : BankHanded) : (s.setBankHanded b h).intake = s.intake := rfl

@[simp] theorem State.setBankHanded_cls (s : State) (b : BankIx) (h : BankHanded) : (s.setBankHanded b h).cls = s.cls := rfl

@[simp] theorem State.setBankHanded_track (s : State) (b : BankIx) (h : BankHanded) : (s.setBankHanded b h).track = s.track := rfl

@[simp] theorem State.setBankHanded_banks (s : State) (b : BankIx) (h : BankHanded) : (s.setBankHanded b h).banks = s.banks := rfl

@[simp] theorem State.setBankHanded_station (s : State) (b : BankIx) (h : BankHanded) : (s.setBankHanded b h).station = s.station := rfl

@[simp] theorem State.setBankHanded_mc (s : State) (b : BankIx) (h : BankHanded) : (s.setBankHanded b h).mc = s.mc := rfl

@[simp] theorem State.setBankHanded_portU (s : State) (b : BankIx) (h : BankHanded) : (s.setBankHanded b h).portU = s.portU := rfl

@[simp] theorem State.setBankHanded_portD (s : State) (b : BankIx) (h : BankHanded) : (s.setBankHanded b h).portD = s.portD := rfl

@[simp] theorem State.setBankHanded_proving (s : State) (b : BankIx) (h : BankHanded) : (s.setBankHanded b h).proving = s.proving := rfl

@[simp] theorem State.setBankHanded_mgmt (s : State) (b : BankIx) (h : BankHanded) : (s.setBankHanded b h).mgmt = s.mgmt := rfl

@[simp] theorem State.setBankHanded_handed (s : State) (b : BankIx) (h : BankHanded) :
    (s.setBankHanded b h).handed = { s.handed with banks := s.handed.banks.set b h } := rfl

@[simp] theorem State.bankHanded_setBankHanded_self (s : State) (b : BankIx) (h : BankHanded) :
    (s.setBankHanded b h).bankHanded b = h := by
  simp [State.bankHanded, State.setBankHanded]

theorem State.bankHanded_setBankHanded (s : State) (b c : BankIx) (h : BankHanded) :
    (s.setBankHanded b h).bankHanded c = if b = c then h else s.bankHanded c := by
  simp only [State.bankHanded, State.setBankHanded, Fin.getElem_fin, Vector.getElem_set, Fin.ext_iff]

theorem State.bankHanded_setBankHanded_ne (s : State) {b c : BankIx} (hc : c ≠ b) (h : BankHanded) :
    (s.setBankHanded b h).bankHanded c = s.bankHanded c := by
  rw [State.bankHanded_setBankHanded, if_neg (Ne.symm hc)]

@[simp] theorem State.bank_setBankHanded (s : State) (b c : BankIx) (h : BankHanded) : (s.setBankHanded b h).bank c = s.bank c := rfl

@[simp] theorem State.linked_setBankHanded (s : State) (b : BankIx) (h : BankHanded) (p : PortId) : (s.setBankHanded b h).linked p = s.linked p := by cases p <;> rfl

@[simp] theorem State.link_setBankHanded (s : State) (b : BankIx) (h : BankHanded) (p : PortId) : (s.setBankHanded b h).link p = s.link p := by cases p <;> rfl

/-! ## Replacing the Station Controller -/

@[simp] theorem State.setStation_pending (s : State) (st : Station) : (s.setStation st).pending = s.pending := rfl

@[simp] theorem State.setStation_inReset (s : State) (st : Station) : (s.setStation st).inReset = s.inReset := rfl

@[simp] theorem State.setStation_nodeAddr (s : State) (st : Station) : (s.setStation st).nodeAddr = s.nodeAddr := rfl

@[simp] theorem State.setStation_stopn (s : State) (st : Station) : (s.setStation st).stopn = s.stopn := rfl

@[simp] theorem State.setStation_pos (s : State) (st : Station) : (s.setStation st).pos = s.pos := rfl

@[simp] theorem State.setStation_intake (s : State) (st : Station) : (s.setStation st).intake = s.intake := rfl

@[simp] theorem State.setStation_cls (s : State) (st : Station) : (s.setStation st).cls = s.cls := rfl

@[simp] theorem State.setStation_track (s : State) (st : Station) : (s.setStation st).track = s.track := rfl

@[simp] theorem State.setStation_banks (s : State) (st : Station) : (s.setStation st).banks = s.banks := rfl

@[simp] theorem State.setStation_mc (s : State) (st : Station) : (s.setStation st).mc = s.mc := rfl

@[simp] theorem State.setStation_portU (s : State) (st : Station) : (s.setStation st).portU = s.portU := rfl

@[simp] theorem State.setStation_portD (s : State) (st : Station) : (s.setStation st).portD = s.portD := rfl

@[simp] theorem State.setStation_proving (s : State) (st : Station) : (s.setStation st).proving = s.proving := rfl

@[simp] theorem State.setStation_mgmt (s : State) (st : Station) : (s.setStation st).mgmt = s.mgmt := rfl

@[simp] theorem State.setStation_handed (s : State) (st : Station) : (s.setStation st).handed = s.handed := rfl

@[simp] theorem State.setStation_station (s : State) (st : Station) : (s.setStation st).station = st := rfl

@[simp] theorem State.bank_setStation (s : State) (st : Station) (b : BankIx) : (s.setStation st).bank b = s.bank b := rfl

@[simp] theorem State.bankHanded_setStation (s : State) (st : Station) (b : BankIx) : (s.setStation st).bankHanded b = s.bankHanded b := rfl

@[simp] theorem State.link_setStation (s : State) (st : Station) (p : PortId) : (s.setStation st).link p = s.link p := by cases p <;> rfl

@[simp] theorem State.linked_setStation (s : State) (st : Station) (p : PortId) : (s.setStation st).linked p = s.linked p := by cases p <;> rfl

/-! ## Replacing the intake counters -/

@[simp] theorem State.setIntakeCounters_pending (s : State) (c : IntakeCounters) : (s.setIntakeCounters c).pending = s.pending := rfl

@[simp] theorem State.setIntakeCounters_inReset (s : State) (c : IntakeCounters) : (s.setIntakeCounters c).inReset = s.inReset := rfl

@[simp] theorem State.setIntakeCounters_nodeAddr (s : State) (c : IntakeCounters) : (s.setIntakeCounters c).nodeAddr = s.nodeAddr := rfl

@[simp] theorem State.setIntakeCounters_stopn (s : State) (c : IntakeCounters) : (s.setIntakeCounters c).stopn = s.stopn := rfl

@[simp] theorem State.setIntakeCounters_pos (s : State) (c : IntakeCounters) : (s.setIntakeCounters c).pos = s.pos := rfl

@[simp] theorem State.setIntakeCounters_cls (s : State) (c : IntakeCounters) : (s.setIntakeCounters c).cls = s.cls := rfl

@[simp] theorem State.setIntakeCounters_track (s : State) (c : IntakeCounters) : (s.setIntakeCounters c).track = s.track := rfl

@[simp] theorem State.setIntakeCounters_banks (s : State) (c : IntakeCounters) : (s.setIntakeCounters c).banks = s.banks := rfl

@[simp] theorem State.setIntakeCounters_station (s : State) (c : IntakeCounters) : (s.setIntakeCounters c).station = s.station := rfl

@[simp] theorem State.setIntakeCounters_mc (s : State) (c : IntakeCounters) : (s.setIntakeCounters c).mc = s.mc := rfl

@[simp] theorem State.setIntakeCounters_portU (s : State) (c : IntakeCounters) : (s.setIntakeCounters c).portU = s.portU := rfl

@[simp] theorem State.setIntakeCounters_portD (s : State) (c : IntakeCounters) : (s.setIntakeCounters c).portD = s.portD := rfl

@[simp] theorem State.setIntakeCounters_proving (s : State) (c : IntakeCounters) : (s.setIntakeCounters c).proving = s.proving := rfl

@[simp] theorem State.setIntakeCounters_mgmt (s : State) (c : IntakeCounters) : (s.setIntakeCounters c).mgmt = s.mgmt := rfl

@[simp] theorem State.setIntakeCounters_handed (s : State) (c : IntakeCounters) : (s.setIntakeCounters c).handed = s.handed := rfl

@[simp] theorem State.setIntakeCounters_intake (s : State) (c : IntakeCounters) : (s.setIntakeCounters c).intake = { s.intake with counters := c } := rfl

@[simp] theorem State.bank_setIntakeCounters (s : State) (c : IntakeCounters) (b : BankIx) : (s.setIntakeCounters c).bank b = s.bank b := rfl

@[simp] theorem State.bankHanded_setIntakeCounters (s : State) (c : IntakeCounters) (b : BankIx) : (s.setIntakeCounters c).bankHanded b = s.bankHanded b := rfl

/-! ## Replacing a recipe set -/

@[simp] theorem State.setRecipe_pending (s : State) (k : Fin 2) (r : RecipeSet) : (s.setRecipe k r).pending = s.pending := rfl

@[simp] theorem State.setRecipe_inReset (s : State) (k : Fin 2) (r : RecipeSet) : (s.setRecipe k r).inReset = s.inReset := rfl

@[simp] theorem State.setRecipe_nodeAddr (s : State) (k : Fin 2) (r : RecipeSet) : (s.setRecipe k r).nodeAddr = s.nodeAddr := rfl

@[simp] theorem State.setRecipe_stopn (s : State) (k : Fin 2) (r : RecipeSet) : (s.setRecipe k r).stopn = s.stopn := rfl

@[simp] theorem State.setRecipe_pos (s : State) (k : Fin 2) (r : RecipeSet) : (s.setRecipe k r).pos = s.pos := rfl

@[simp] theorem State.setRecipe_intake (s : State) (k : Fin 2) (r : RecipeSet) : (s.setRecipe k r).intake = s.intake := rfl

@[simp] theorem State.setRecipe_track (s : State) (k : Fin 2) (r : RecipeSet) : (s.setRecipe k r).track = s.track := rfl

@[simp] theorem State.setRecipe_banks (s : State) (k : Fin 2) (r : RecipeSet) : (s.setRecipe k r).banks = s.banks := rfl

@[simp] theorem State.setRecipe_station (s : State) (k : Fin 2) (r : RecipeSet) : (s.setRecipe k r).station = s.station := rfl

@[simp] theorem State.setRecipe_mc (s : State) (k : Fin 2) (r : RecipeSet) : (s.setRecipe k r).mc = s.mc := rfl

@[simp] theorem State.setRecipe_portU (s : State) (k : Fin 2) (r : RecipeSet) : (s.setRecipe k r).portU = s.portU := rfl

@[simp] theorem State.setRecipe_portD (s : State) (k : Fin 2) (r : RecipeSet) : (s.setRecipe k r).portD = s.portD := rfl

@[simp] theorem State.setRecipe_proving (s : State) (k : Fin 2) (r : RecipeSet) : (s.setRecipe k r).proving = s.proving := rfl

@[simp] theorem State.setRecipe_mgmt (s : State) (k : Fin 2) (r : RecipeSet) : (s.setRecipe k r).mgmt = s.mgmt := rfl

@[simp] theorem State.setRecipe_handed (s : State) (k : Fin 2) (r : RecipeSet) : (s.setRecipe k r).handed = s.handed := rfl

@[simp] theorem State.setRecipe_cls (s : State) (k : Fin 2) (r : RecipeSet) :
    (s.setRecipe k r).cls = { s.cls with sets := s.cls.sets.set k r } := rfl

/-! ## Replacing the flags -/

@[simp] theorem setFlags_pending (fl : BitVec 15) (s : State) : (setFlags fl s).pending = s.pending := rfl

@[simp] theorem setFlags_inReset (fl : BitVec 15) (s : State) : (setFlags fl s).inReset = s.inReset := rfl

@[simp] theorem setFlags_nodeAddr (fl : BitVec 15) (s : State) : (setFlags fl s).nodeAddr = s.nodeAddr := rfl

@[simp] theorem setFlags_stopn (fl : BitVec 15) (s : State) : (setFlags fl s).stopn = s.stopn := rfl

@[simp] theorem setFlags_pos (fl : BitVec 15) (s : State) : (setFlags fl s).pos = s.pos := rfl

@[simp] theorem setFlags_intake (fl : BitVec 15) (s : State) : (setFlags fl s).intake = s.intake := rfl

@[simp] theorem setFlags_cls (fl : BitVec 15) (s : State) : (setFlags fl s).cls = s.cls := rfl

@[simp] theorem setFlags_track (fl : BitVec 15) (s : State) : (setFlags fl s).track = s.track := rfl

@[simp] theorem setFlags_banks (fl : BitVec 15) (s : State) : (setFlags fl s).banks = s.banks := rfl

@[simp] theorem setFlags_station (fl : BitVec 15) (s : State) : (setFlags fl s).station = s.station := rfl

@[simp] theorem setFlags_mc (fl : BitVec 15) (s : State) : (setFlags fl s).mc = s.mc := rfl

@[simp] theorem setFlags_portU (fl : BitVec 15) (s : State) : (setFlags fl s).portU = s.portU := rfl

@[simp] theorem setFlags_portD (fl : BitVec 15) (s : State) : (setFlags fl s).portD = s.portD := rfl

@[simp] theorem setFlags_proving (fl : BitVec 15) (s : State) : (setFlags fl s).proving = s.proving := rfl

@[simp] theorem setFlags_handed (fl : BitVec 15) (s : State) : (setFlags fl s).handed = s.handed := rfl

@[simp] theorem setFlags_mgmt (fl : BitVec 15) (s : State) :
    (setFlags fl s).mgmt = { s.mgmt with flags := fl, alert := alertOf fl s.mgmt.mask } := rfl

/-! ## Replacing the mask -/

@[simp] theorem setEventMask_pending (m : BitVec 15) (s : State) : (setEventMask m s).pending = s.pending := rfl

@[simp] theorem setEventMask_inReset (m : BitVec 15) (s : State) : (setEventMask m s).inReset = s.inReset := rfl

@[simp] theorem setEventMask_nodeAddr (m : BitVec 15) (s : State) : (setEventMask m s).nodeAddr = s.nodeAddr := rfl

@[simp] theorem setEventMask_stopn (m : BitVec 15) (s : State) : (setEventMask m s).stopn = s.stopn := rfl

@[simp] theorem setEventMask_pos (m : BitVec 15) (s : State) : (setEventMask m s).pos = s.pos := rfl

@[simp] theorem setEventMask_intake (m : BitVec 15) (s : State) : (setEventMask m s).intake = s.intake := rfl

@[simp] theorem setEventMask_cls (m : BitVec 15) (s : State) : (setEventMask m s).cls = s.cls := rfl

@[simp] theorem setEventMask_track (m : BitVec 15) (s : State) : (setEventMask m s).track = s.track := rfl

@[simp] theorem setEventMask_banks (m : BitVec 15) (s : State) : (setEventMask m s).banks = s.banks := rfl

@[simp] theorem setEventMask_station (m : BitVec 15) (s : State) : (setEventMask m s).station = s.station := rfl

@[simp] theorem setEventMask_mc (m : BitVec 15) (s : State) : (setEventMask m s).mc = s.mc := rfl

@[simp] theorem setEventMask_portU (m : BitVec 15) (s : State) : (setEventMask m s).portU = s.portU := rfl

@[simp] theorem setEventMask_portD (m : BitVec 15) (s : State) : (setEventMask m s).portD = s.portD := rfl

@[simp] theorem setEventMask_proving (m : BitVec 15) (s : State) : (setEventMask m s).proving = s.proving := rfl

@[simp] theorem setEventMask_handed (m : BitVec 15) (s : State) : (setEventMask m s).handed = s.handed := rfl

@[simp] theorem setEventMask_mgmt (m : BitVec 15) (s : State) :
    (setEventMask m s).mgmt = { s.mgmt with mask := m, alert := alertOf s.mgmt.flags m } := rfl

/-! ## Replacing a link -/

@[simp] theorem State.setLink_pending (s : State) (p : PortId) (l : Link) : (s.setLink p l).pending = s.pending := by cases p <;> rfl

@[simp] theorem State.setLink_inReset (s : State) (p : PortId) (l : Link) : (s.setLink p l).inReset = s.inReset := by cases p <;> rfl

@[simp] theorem State.setLink_nodeAddr (s : State) (p : PortId) (l : Link) : (s.setLink p l).nodeAddr = s.nodeAddr := by cases p <;> rfl

@[simp] theorem State.setLink_stopn (s : State) (p : PortId) (l : Link) : (s.setLink p l).stopn = s.stopn := by cases p <;> rfl

@[simp] theorem State.setLink_pos (s : State) (p : PortId) (l : Link) : (s.setLink p l).pos = s.pos := by cases p <;> rfl

@[simp] theorem State.setLink_intake (s : State) (p : PortId) (l : Link) : (s.setLink p l).intake = s.intake := by cases p <;> rfl

@[simp] theorem State.setLink_cls (s : State) (p : PortId) (l : Link) : (s.setLink p l).cls = s.cls := by cases p <;> rfl

@[simp] theorem State.setLink_track (s : State) (p : PortId) (l : Link) : (s.setLink p l).track = s.track := by cases p <;> rfl

@[simp] theorem State.setLink_banks (s : State) (p : PortId) (l : Link) : (s.setLink p l).banks = s.banks := by cases p <;> rfl

@[simp] theorem State.setLink_station (s : State) (p : PortId) (l : Link) : (s.setLink p l).station = s.station := by cases p <;> rfl

@[simp] theorem State.setLink_mc (s : State) (p : PortId) (l : Link) : (s.setLink p l).mc = s.mc := by cases p <;> rfl

@[simp] theorem State.setLink_proving (s : State) (p : PortId) (l : Link) : (s.setLink p l).proving = s.proving := by cases p <;> rfl

@[simp] theorem State.setLink_mgmt (s : State) (p : PortId) (l : Link) : (s.setLink p l).mgmt = s.mgmt := by cases p <;> rfl

@[simp] theorem State.setLink_handed (s : State) (p : PortId) (l : Link) : (s.setLink p l).handed = s.handed := by cases p <;> rfl

@[simp] theorem State.setLink_u_portU (s : State) (l : Link) : (s.setLink .u l).portU = { s.portU with link := l } := rfl

@[simp] theorem State.setLink_u_portD (s : State) (l : Link) : (s.setLink .u l).portD = s.portD := rfl

@[simp] theorem State.setLink_d_portD (s : State) (l : Link) : (s.setLink .d l).portD = { s.portD with link := l } := rfl

@[simp] theorem State.setLink_d_portU (s : State) (l : Link) : (s.setLink .d l).portU = s.portU := rfl

@[simp] theorem State.setLink_portU_queue (s : State) (p : PortId) (l : Link) : (s.setLink p l).portU.queue = s.portU.queue := by cases p <;> rfl

@[simp] theorem State.setLink_portU_tx (s : State) (p : PortId) (l : Link) : (s.setLink p l).portU.tx = s.portU.tx := by cases p <;> rfl

@[simp] theorem State.setLink_portU_relayDrops (s : State) (p : PortId) (l : Link) : (s.setLink p l).portU.relayDrops = s.portU.relayDrops := by cases p <;> rfl

@[simp] theorem State.setLink_portU_returnDrops (s : State) (p : PortId) (l : Link) : (s.setLink p l).portU.returnDrops = s.portU.returnDrops := by cases p <;> rfl

@[simp] theorem State.setLink_portD_fire (s : State) (p : PortId) (l : Link) : (s.setLink p l).portD.fire = s.portD.fire := by cases p <;> rfl

@[simp] theorem State.setLink_portD_drive (s : State) (p : PortId) (l : Link) : (s.setLink p l).portD.drive = s.portD.drive := by cases p <;> rfl

@[simp] theorem State.setLink_portD_relay (s : State) (p : PortId) (l : Link) : (s.setLink p l).portD.relay = s.portD.relay := by cases p <;> rfl

@[simp] theorem State.setLink_portD_tx (s : State) (p : PortId) (l : Link) : (s.setLink p l).portD.tx = s.portD.tx := by cases p <;> rfl

@[simp] theorem State.setLink_portD_unknownSource (s : State) (p : PortId) (l : Link) : (s.setLink p l).portD.unknownSource = s.portD.unknownSource := by cases p <;> rfl

@[simp] theorem State.setLink_portD_relayDrops (s : State) (p : PortId) (l : Link) : (s.setLink p l).portD.relayDrops = s.portD.relayDrops := by cases p <;> rfl

@[simp] theorem State.setLink_portD_fireOverruns (s : State) (p : PortId) (l : Link) : (s.setLink p l).portD.fireOverruns = s.portD.fireOverruns := by cases p <;> rfl

@[simp] theorem State.link_setLink_self (s : State) (p : PortId) (l : Link) : (s.setLink p l).link p = l := by
  cases p <;> rfl

@[simp] theorem State.setLink_link (s : State) (p : PortId) : s.setLink p (s.link p) = s := by cases p <;> rfl

@[simp] theorem State.setLink_setLink (s : State) (p : PortId) (l m : Link) :
    (s.setLink p l).setLink p m = s.setLink p m := by
  cases p <;> rfl

@[simp] theorem State.bank_setLink (s : State) (p : PortId) (l : Link) (b : BankIx) : (s.setLink p l).bank b = s.bank b := by
  cases p <;> rfl

@[simp] theorem State.bankHanded_setLink (s : State) (p : PortId) (l : Link) (b : BankIx) :
    (s.setLink p l).bankHanded b = s.bankHanded b := by
  cases p <;> rfl

/-! ## Commands on the running time base -/

theorem whenRunning_running (f : State → State) {s : State} (h : s.inReset = false) : whenRunning f s = .next (f s) := by
  simp [whenRunning, h]

theorem whenRunning_inReset (f : State → State) {s : State} (h : s.inReset = true) : whenRunning f s = .next s := by
  simp [whenRunning, h]

/-- What `whenRunning` can answer: the effect while RESETn is released, nothing while it is asserted. -/
theorem whenRunning_eq_next {f : State → State} {s t : State} (h : whenRunning f s = .next t) :
    (s.inReset = false ∧ t = f s) ∨ (s.inReset = true ∧ t = s) := by
  cases hr : s.inReset <;> simp_all [whenRunning]

end Sys2Proof.Machine
end

