-- ==== Sys2Proof/Laws/Frames.lean ====
section
/-! SUPPORT. What each shared operation leaves alone, one lemma for each; a proof cites it and never unfolds the
operation. -/

namespace Sys2Proof.Machine

/-! ## The arbiter starts a frame -/

@[simp] theorem startForward_frame (s : State) :
    (startForward s).pending = s.pending ∧ (startForward s).inReset = s.inReset
      ∧ (startForward s).nodeAddr = s.nodeAddr ∧ (startForward s).stopn = s.stopn ∧ (startForward s).pos = s.pos
      ∧ (startForward s).intake = s.intake ∧ (startForward s).cls = s.cls ∧ (startForward s).track = s.track
      ∧ (startForward s).banks = s.banks ∧ (startForward s).station = s.station ∧ (startForward s).mc = s.mc
      ∧ (startForward s).portU = s.portU ∧ (startForward s).proving = s.proving ∧ (startForward s).mgmt = s.mgmt
      ∧ (startForward s).handed = s.handed ∧ (startForward s).portD.link = s.portD.link
      ∧ (startForward s).portD.unknownSource = s.portD.unknownSource
      ∧ (startForward s).portD.relayDrops = s.portD.relayDrops
      ∧ (startForward s).portD.fireOverruns = s.portD.fireOverruns := by
  unfold startForward; split <;> [skip; (split <;> [skip; split])] <;> (and_intros <;> rfl)

@[simp] theorem startForward_frame_at (s : State) :
    (∀ c, (startForward s).bank c = s.bank c) ∧ (∀ c, (startForward s).bankHanded c = s.bankHanded c)
      ∧ (∀ q, (startForward s).link q = s.link q) ∧ (∀ q, (startForward s).linked q = s.linked q) := by
  exact ⟨fun c => State.bank_congr (by simp) c,
    fun c => State.bankHanded_congr (by simp) c,
    State.link_congr (by simp) (by simp),
    fun q => State.linked_congr (State.link_congr (by simp) (by simp) q)⟩

/-! ## A free forward lane takes a frame -/

@[simp] theorem offerForward_frame (s : State) :
    (offerForward s).pending = s.pending ∧ (offerForward s).inReset = s.inReset
      ∧ (offerForward s).nodeAddr = s.nodeAddr ∧ (offerForward s).stopn = s.stopn ∧ (offerForward s).pos = s.pos
      ∧ (offerForward s).intake = s.intake ∧ (offerForward s).cls = s.cls ∧ (offerForward s).track = s.track
      ∧ (offerForward s).banks = s.banks ∧ (offerForward s).station = s.station ∧ (offerForward s).mc = s.mc
      ∧ (offerForward s).portU = s.portU ∧ (offerForward s).proving = s.proving ∧ (offerForward s).mgmt = s.mgmt
      ∧ (offerForward s).handed = s.handed ∧ (offerForward s).portD.link = s.portD.link
      ∧ (offerForward s).portD.unknownSource = s.portD.unknownSource
      ∧ (offerForward s).portD.relayDrops = s.portD.relayDrops
      ∧ (offerForward s).portD.fireOverruns = s.portD.fireOverruns := by
  unfold offerForward; split <;> simp

@[simp] theorem offerForward_frame_at (s : State) :
    (∀ c, (offerForward s).bank c = s.bank c) ∧ (∀ c, (offerForward s).bankHanded c = s.bankHanded c)
      ∧ (∀ q, (offerForward s).link q = s.link q) ∧ (∀ q, (offerForward s).linked q = s.linked q) := by
  exact ⟨fun c => State.bank_congr (by simp) c,
    fun c => State.bankHanded_congr (by simp) c,
    State.link_congr (by simp) (by simp),
    fun q => State.linked_congr (State.link_congr (by simp) (by simp) q)⟩

/-! ## The return lane starts a frame -/

@[simp] theorem startReturn_frame (s : State) :
    (startReturn s).pending = s.pending ∧ (startReturn s).inReset = s.inReset ∧ (startReturn s).nodeAddr = s.nodeAddr
      ∧ (startReturn s).stopn = s.stopn ∧ (startReturn s).pos = s.pos ∧ (startReturn s).intake = s.intake
      ∧ (startReturn s).cls = s.cls ∧ (startReturn s).track = s.track ∧ (startReturn s).banks = s.banks
      ∧ (startReturn s).station = s.station ∧ (startReturn s).mc = s.mc ∧ (startReturn s).portD = s.portD
      ∧ (startReturn s).proving = s.proving ∧ (startReturn s).mgmt = s.mgmt ∧ (startReturn s).handed = s.handed
      ∧ (startReturn s).portU.link = s.portU.link ∧ (startReturn s).portU.relayDrops = s.portU.relayDrops
      ∧ (startReturn s).portU.returnDrops = s.portU.returnDrops := by
  unfold startReturn; split <;> (and_intros <;> rfl)

@[simp] theorem startReturn_frame_at (s : State) :
    (∀ c, (startReturn s).bank c = s.bank c) ∧ (∀ c, (startReturn s).bankHanded c = s.bankHanded c)
      ∧ (∀ q, (startReturn s).link q = s.link q) ∧ (∀ q, (startReturn s).linked q = s.linked q) := by
  exact ⟨fun c => State.bank_congr (by simp) c,
    fun c => State.bankHanded_congr (by simp) c,
    State.link_congr (by simp) (by simp),
    fun q => State.linked_congr (State.link_congr (by simp) (by simp) q)⟩

/-! ## A free return lane takes a frame -/

@[simp] theorem offerReturn_frame (s : State) :
    (offerReturn s).pending = s.pending ∧ (offerReturn s).inReset = s.inReset ∧ (offerReturn s).nodeAddr = s.nodeAddr
      ∧ (offerReturn s).stopn = s.stopn ∧ (offerReturn s).pos = s.pos ∧ (offerReturn s).intake = s.intake
      ∧ (offerReturn s).cls = s.cls ∧ (offerReturn s).track = s.track ∧ (offerReturn s).banks = s.banks
      ∧ (offerReturn s).station = s.station ∧ (offerReturn s).mc = s.mc ∧ (offerReturn s).portD = s.portD
      ∧ (offerReturn s).proving = s.proving ∧ (offerReturn s).mgmt = s.mgmt ∧ (offerReturn s).handed = s.handed
      ∧ (offerReturn s).portU.link = s.portU.link ∧ (offerReturn s).portU.relayDrops = s.portU.relayDrops
      ∧ (offerReturn s).portU.returnDrops = s.portU.returnDrops := by
  unfold offerReturn; split <;> simp

@[simp] theorem offerReturn_frame_at (s : State) :
    (∀ c, (offerReturn s).bank c = s.bank c) ∧ (∀ c, (offerReturn s).bankHanded c = s.bankHanded c)
      ∧ (∀ q, (offerReturn s).link q = s.link q) ∧ (∀ q, (offerReturn s).linked q = s.linked q) := by
  exact ⟨fun c => State.bank_congr (by simp) c,
    fun c => State.bankHanded_congr (by simp) c,
    State.link_congr (by simp) (by simp),
    fun q => State.linked_congr (State.link_congr (by simp) (by simp) q)⟩

/-! ## An answer or notice joins the return queue -/

@[simp] theorem pushOwn_frame (f : Frame) (s : State) :
    (pushOwn f s).pending = s.pending ∧ (pushOwn f s).inReset = s.inReset ∧ (pushOwn f s).nodeAddr = s.nodeAddr
      ∧ (pushOwn f s).stopn = s.stopn ∧ (pushOwn f s).pos = s.pos ∧ (pushOwn f s).intake = s.intake
      ∧ (pushOwn f s).cls = s.cls ∧ (pushOwn f s).track = s.track ∧ (pushOwn f s).banks = s.banks
      ∧ (pushOwn f s).station = s.station ∧ (pushOwn f s).mc = s.mc ∧ (pushOwn f s).portD = s.portD
      ∧ (pushOwn f s).proving = s.proving ∧ (pushOwn f s).mgmt = s.mgmt ∧ (pushOwn f s).handed = s.handed
      ∧ (pushOwn f s).portU.link = s.portU.link ∧ (pushOwn f s).portU.relayDrops = s.portU.relayDrops := by
  unfold pushOwn; split <;> simp

@[simp] theorem pushOwn_frame_at (f : Frame) (s : State) :
    (∀ c, (pushOwn f s).bank c = s.bank c) ∧ (∀ c, (pushOwn f s).bankHanded c = s.bankHanded c)
      ∧ (∀ q, (pushOwn f s).link q = s.link q) ∧ (∀ q, (pushOwn f s).linked q = s.linked q) := by
  exact ⟨fun c => State.bank_congr (by simp) c,
    fun c => State.bankHanded_congr (by simp) c,
    State.link_congr (by simp) (by simp),
    fun q => State.linked_congr (State.link_congr (by simp) (by simp) q)⟩

/-! ## A DRIVE frame is issued -/

@[simp] theorem issueDrive_frame (st : StationId) (s : State) :
    (issueDrive st s).pending = s.pending ∧ (issueDrive st s).inReset = s.inReset
      ∧ (issueDrive st s).nodeAddr = s.nodeAddr ∧ (issueDrive st s).stopn = s.stopn ∧ (issueDrive st s).pos = s.pos
      ∧ (issueDrive st s).intake = s.intake ∧ (issueDrive st s).cls = s.cls ∧ (issueDrive st s).track = s.track
      ∧ (issueDrive st s).banks = s.banks ∧ (issueDrive st s).station = s.station ∧ (issueDrive st s).mc = s.mc
      ∧ (issueDrive st s).portU = s.portU ∧ (issueDrive st s).proving = s.proving ∧ (issueDrive st s).mgmt = s.mgmt
      ∧ (issueDrive st s).handed = s.handed ∧ (issueDrive st s).portD.link = s.portD.link
      ∧ (issueDrive st s).portD.unknownSource = s.portD.unknownSource
      ∧ (issueDrive st s).portD.relayDrops = s.portD.relayDrops
      ∧ (issueDrive st s).portD.fireOverruns = s.portD.fireOverruns := by
  unfold issueDrive; split <;> simp

@[simp] theorem issueDrive_frame_at (st : StationId) (s : State) :
    (∀ c, (issueDrive st s).bank c = s.bank c) ∧ (∀ c, (issueDrive st s).bankHanded c = s.bankHanded c)
      ∧ (∀ q, (issueDrive st s).link q = s.link q) ∧ (∀ q, (issueDrive st s).linked q = s.linked q) := by
  exact ⟨fun c => State.bank_congr (by simp) c,
    fun c => State.bankHanded_congr (by simp) c,
    State.link_congr (by simp) (by simp),
    fun q => State.linked_congr (State.link_congr (by simp) (by simp) q)⟩

/-! ## A FIRE frame is handed over -/

@[simp] theorem handFire_frame (i : BankIx) (n : BitVec 8) (s : State) :
    (handFire i n s).pending = s.pending ∧ (handFire i n s).inReset = s.inReset
      ∧ (handFire i n s).nodeAddr = s.nodeAddr ∧ (handFire i n s).stopn = s.stopn ∧ (handFire i n s).pos = s.pos
      ∧ (handFire i n s).intake = s.intake ∧ (handFire i n s).cls = s.cls ∧ (handFire i n s).track = s.track
      ∧ (handFire i n s).banks = s.banks ∧ (handFire i n s).station = s.station ∧ (handFire i n s).mc = s.mc
      ∧ (handFire i n s).portU = s.portU ∧ (handFire i n s).proving = s.proving ∧ (handFire i n s).mgmt = s.mgmt
      ∧ (handFire i n s).handed = s.handed ∧ (handFire i n s).portD.link = s.portD.link
      ∧ (handFire i n s).portD.unknownSource = s.portD.unknownSource
      ∧ (handFire i n s).portD.relayDrops = s.portD.relayDrops := by
  unfold handFire; dsimp only; split <;> simp

@[simp] theorem handFire_frame_at (i : BankIx) (n : BitVec 8) (s : State) :
    (∀ c, (handFire i n s).bank c = s.bank c) ∧ (∀ c, (handFire i n s).bankHanded c = s.bankHanded c)
      ∧ (∀ q, (handFire i n s).link q = s.link q) ∧ (∀ q, (handFire i n s).linked q = s.linked q) := by
  exact ⟨fun c => State.bank_congr (by simp) c,
    fun c => State.bankHanded_congr (by simp) c,
    State.link_congr (by simp) (by simp),
    fun q => State.linked_congr (State.link_congr (by simp) (by simp) q)⟩

/-! ## The count of the Item Track is reported -/

@[simp] theorem reportOccupancy_frame (s : State) :
    (reportOccupancy s).pending = s.pending ∧ (reportOccupancy s).inReset = s.inReset
      ∧ (reportOccupancy s).nodeAddr = s.nodeAddr ∧ (reportOccupancy s).stopn = s.stopn
      ∧ (reportOccupancy s).pos = s.pos ∧ (reportOccupancy s).intake = s.intake ∧ (reportOccupancy s).cls = s.cls
      ∧ (reportOccupancy s).track = s.track ∧ (reportOccupancy s).banks = s.banks
      ∧ (reportOccupancy s).station = s.station ∧ (reportOccupancy s).mc = s.mc ∧ (reportOccupancy s).portU = s.portU
      ∧ (reportOccupancy s).portD = s.portD ∧ (reportOccupancy s).proving = s.proving
      ∧ (reportOccupancy s).mgmt = s.mgmt ∧ (reportOccupancy s).handed.detects = s.handed.detects
      ∧ (reportOccupancy s).handed.requests = s.handed.requests ∧ (reportOccupancy s).handed.burden = s.handed.burden
      ∧ (reportOccupancy s).handed.ring = s.handed.ring ∧ (reportOccupancy s).handed.encoder = s.handed.encoder
      ∧ (reportOccupancy s).handed.reversal = s.handed.reversal
      ∧ (reportOccupancy s).handed.trackEmpty = s.handed.trackEmpty
      ∧ (reportOccupancy s).handed.portUMode = s.handed.portUMode
      ∧ (reportOccupancy s).handed.portUStation = s.handed.portUStation
      ∧ (reportOccupancy s).handed.portDStation = s.handed.portDStation
      ∧ (reportOccupancy s).handed.portDExpiry = s.handed.portDExpiry
      ∧ (reportOccupancy s).handed.stationModes = s.handed.stationModes
      ∧ (reportOccupancy s).handed.banks = s.handed.banks := by
  unfold reportOccupancy; repeat' split
  all_goals (and_intros <;> rfl)

@[simp] theorem reportOccupancy_frame_at (s : State) :
    (∀ c, (reportOccupancy s).bank c = s.bank c) ∧ (∀ c, (reportOccupancy s).bankHanded c = s.bankHanded c)
      ∧ (∀ q, (reportOccupancy s).link q = s.link q) ∧ (∀ q, (reportOccupancy s).linked q = s.linked q) := by
  exact ⟨fun c => State.bank_congr (by simp) c,
    fun c => State.bankHanded_congr (by simp) c,
    State.link_congr (by simp) (by simp),
    fun q => State.linked_congr (State.link_congr (by simp) (by simp) q)⟩

/-! ## A flag is raised -/

@[simp] theorem raiseOne_frame (f : EventFlag) (s : State) :
    (raiseOne f s).pending = s.pending ∧ (raiseOne f s).inReset = s.inReset ∧ (raiseOne f s).nodeAddr = s.nodeAddr
      ∧ (raiseOne f s).stopn = s.stopn ∧ (raiseOne f s).pos = s.pos ∧ (raiseOne f s).intake = s.intake
      ∧ (raiseOne f s).cls = s.cls ∧ (raiseOne f s).track = s.track ∧ (raiseOne f s).banks = s.banks
      ∧ (raiseOne f s).station = s.station ∧ (raiseOne f s).mc = s.mc ∧ (raiseOne f s).portD = s.portD
      ∧ (raiseOne f s).proving = s.proving ∧ (raiseOne f s).handed = s.handed
      ∧ (raiseOne f s).portU.link = s.portU.link ∧ (raiseOne f s).portU.relayDrops = s.portU.relayDrops
      ∧ (raiseOne f s).mgmt.queue = s.mgmt.queue ∧ (raiseOne f s).mgmt.mask = s.mgmt.mask
      ∧ (raiseOne f s).mgmt.line = s.mgmt.line ∧ (raiseOne f s).mgmt.softReset = s.mgmt.softReset := by
  unfold raiseOne; split <;> [skip; split] <;> simp

@[simp] theorem raiseOne_frame_at (f : EventFlag) (s : State) :
    (∀ c, (raiseOne f s).bank c = s.bank c) ∧ (∀ c, (raiseOne f s).bankHanded c = s.bankHanded c)
      ∧ (∀ q, (raiseOne f s).link q = s.link q) ∧ (∀ q, (raiseOne f s).linked q = s.linked q) := by
  exact ⟨fun c => State.bank_congr (by simp) c,
    fun c => State.bankHanded_congr (by simp) c,
    State.link_congr (by simp) (by simp),
    fun q => State.linked_congr (State.link_congr (by simp) (by simp) q)⟩

/-- What every single flag leaves alone, a list of flags leaves alone. -/
theorem raise_keeps {α : Type} (part : State → α) (h : ∀ f s, part (raiseOne f s) = part s) (fs : List EventFlag)
    (s : State) : part (raise fs s) = part s := by
  unfold raise
  generalize EventFlag.all.filter (fun f => f ∈ fs) = l
  induction l generalizing s with
  | nil => rfl
  | cons f l ih => simp [ih, h]

/-! ## Flags are raised -/

@[simp] theorem raise_frame (fs : List EventFlag) (s : State) :
    (raise fs s).pending = s.pending ∧ (raise fs s).inReset = s.inReset ∧ (raise fs s).nodeAddr = s.nodeAddr
      ∧ (raise fs s).stopn = s.stopn ∧ (raise fs s).pos = s.pos ∧ (raise fs s).intake = s.intake
      ∧ (raise fs s).cls = s.cls ∧ (raise fs s).track = s.track ∧ (raise fs s).banks = s.banks
      ∧ (raise fs s).station = s.station ∧ (raise fs s).mc = s.mc ∧ (raise fs s).portD = s.portD
      ∧ (raise fs s).proving = s.proving ∧ (raise fs s).handed = s.handed ∧ (raise fs s).portU.link = s.portU.link
      ∧ (raise fs s).portU.relayDrops = s.portU.relayDrops ∧ (raise fs s).mgmt.queue = s.mgmt.queue
      ∧ (raise fs s).mgmt.mask = s.mgmt.mask ∧ (raise fs s).mgmt.line = s.mgmt.line
      ∧ (raise fs s).mgmt.softReset = s.mgmt.softReset := by
  exact ⟨raise_keeps (·.pending) (by simp) fs s,
    raise_keeps (·.inReset) (by simp) fs s,
    raise_keeps (·.nodeAddr) (by simp) fs s,
    raise_keeps (·.stopn) (by simp) fs s,
    raise_keeps (·.pos) (by simp) fs s,
    raise_keeps (·.intake) (by simp) fs s,
    raise_keeps (·.cls) (by simp) fs s,
    raise_keeps (·.track) (by simp) fs s,
    raise_keeps (·.banks) (by simp) fs s,
    raise_keeps (·.station) (by simp) fs s,
    raise_keeps (·.mc) (by simp) fs s,
    raise_keeps (·.portD) (by simp) fs s,
    raise_keeps (·.proving) (by simp) fs s,
    raise_keeps (·.handed) (by simp) fs s,
    raise_keeps (·.portU.link) (by simp) fs s,
    raise_keeps (·.portU.relayDrops) (by simp) fs s,
    raise_keeps (·.mgmt.queue) (by simp) fs s,
    raise_keeps (·.mgmt.mask) (by simp) fs s,
    raise_keeps (·.mgmt.line) (by simp) fs s,
    raise_keeps (·.mgmt.softReset) (by simp) fs s⟩

@[simp] theorem raise_frame_at (fs : List EventFlag) (s : State) :
    (∀ c, (raise fs s).bank c = s.bank c) ∧ (∀ c, (raise fs s).bankHanded c = s.bankHanded c)
      ∧ (∀ q, (raise fs s).link q = s.link q) ∧ (∀ q, (raise fs s).linked q = s.linked q) := by
  exact ⟨fun c => raise_keeps (·.bank c) (by simp) fs s, fun c => raise_keeps (·.bankHanded c) (by simp) fs s, fun q => raise_keeps (·.link q) (by simp) fs s, fun q => raise_keeps (·.linked q) (by simp) fs s⟩

/-! ## A change of mode is handed on -/

@[simp] theorem changeMode_frame (m : Mode) (s : State) :
    (changeMode m s).pending = s.pending ∧ (changeMode m s).inReset = s.inReset
      ∧ (changeMode m s).nodeAddr = s.nodeAddr ∧ (changeMode m s).stopn = s.stopn ∧ (changeMode m s).pos = s.pos
      ∧ (changeMode m s).intake = s.intake ∧ (changeMode m s).cls = s.cls ∧ (changeMode m s).track = s.track
      ∧ (changeMode m s).banks = s.banks ∧ (changeMode m s).station = s.station ∧ (changeMode m s).portU = s.portU
      ∧ (changeMode m s).portD = s.portD ∧ (changeMode m s).proving = s.proving ∧ (changeMode m s).mgmt = s.mgmt
      ∧ (changeMode m s).handed.detects = s.handed.detects ∧ (changeMode m s).handed.requests = s.handed.requests
      ∧ (changeMode m s).handed.burden = s.handed.burden ∧ (changeMode m s).handed.ring = s.handed.ring
      ∧ (changeMode m s).handed.encoder = s.handed.encoder ∧ (changeMode m s).handed.reversal = s.handed.reversal
      ∧ (changeMode m s).handed.trackEmpty = s.handed.trackEmpty
      ∧ (changeMode m s).handed.occupancy = s.handed.occupancy
      ∧ (changeMode m s).handed.portUMode = s.handed.portUMode
      ∧ (changeMode m s).handed.portUStation = s.handed.portUStation
      ∧ (changeMode m s).handed.portDStation = s.handed.portDStation
      ∧ (changeMode m s).handed.portDExpiry = s.handed.portDExpiry ∧ (changeMode m s).mc.cause = s.mc.cause
      ∧ (changeMode m s).mc.drainStart = s.mc.drainStart ∧ (changeMode m s).mc.blindStart = s.mc.blindStart
      ∧ (changeMode m s).mc.blindEnd = s.mc.blindEnd := by
  and_intros <;> rfl

@[simp] theorem changeMode_frame_at (m : Mode) (s : State) :
    (∀ c, (changeMode m s).bank c = s.bank c) ∧ (∀ q, (changeMode m s).link q = s.link q)
      ∧ (∀ q, (changeMode m s).linked q = s.linked q) := by
  exact ⟨fun c => State.bank_congr (by simp) c,
    State.link_congr (by simp) (by simp),
    fun q => State.linked_congr (State.link_congr (by simp) (by simp) q)⟩

@[simp] theorem changeMode_mc_mode (m : Mode) (s : State) : (changeMode m s).mc.mode = m := rfl

@[simp] theorem changeMode_stationModes (m : Mode) (s : State) :
    (changeMode m s).handed.stationModes = s.handed.stationModes ++ [m] := rfl

@[simp] theorem changeMode_bankHanded (m : Mode) (s : State) (b : BankIx) :
    (changeMode m s).bankHanded b = { s.bankHanded b with modes := (s.bankHanded b).modes ++ [m] } := by
  simp [changeMode, State.bankHanded]

/-! ## A flush -/

@[simp] theorem flushLine_frame (s : State) :
    (flushLine s).pending = s.pending ∧ (flushLine s).inReset = s.inReset ∧ (flushLine s).nodeAddr = s.nodeAddr
      ∧ (flushLine s).stopn = s.stopn ∧ (flushLine s).pos = s.pos ∧ (flushLine s).intake = s.intake
      ∧ (flushLine s).cls = s.cls ∧ (flushLine s).station = s.station ∧ (flushLine s).mc = s.mc
      ∧ (flushLine s).portU = s.portU ∧ (flushLine s).portD = s.portD ∧ (flushLine s).proving = s.proving
      ∧ (flushLine s).mgmt = s.mgmt ∧ (flushLine s).handed.detects = s.handed.detects
      ∧ (flushLine s).handed.requests = s.handed.requests ∧ (flushLine s).handed.burden = s.handed.burden
      ∧ (flushLine s).handed.ring = s.handed.ring ∧ (flushLine s).handed.encoder = s.handed.encoder
      ∧ (flushLine s).handed.reversal = s.handed.reversal ∧ (flushLine s).handed.trackEmpty = s.handed.trackEmpty
      ∧ (flushLine s).handed.portUMode = s.handed.portUMode
      ∧ (flushLine s).handed.portUStation = s.handed.portUStation
      ∧ (flushLine s).handed.portDStation = s.handed.portDStation
      ∧ (flushLine s).handed.portDExpiry = s.handed.portDExpiry
      ∧ (flushLine s).handed.stationModes = s.handed.stationModes := by
  simp [flushLine]

@[simp] theorem flushLine_frame_at (s : State) :
    (∀ q, (flushLine s).link q = s.link q) ∧ (∀ q, (flushLine s).linked q = s.linked q) := by
  exact ⟨State.link_congr (by simp) (by simp),
    fun q => State.linked_congr (State.link_congr (by simp) (by simp) q)⟩

@[simp] theorem flushLine_track (s : State) : (flushLine s).track = [] := by simp [flushLine]

@[simp] theorem flushLine_banks (s : State) : (flushLine s).banks = s.banks.map flushBank := by simp [flushLine]

@[simp] theorem flushLine_bank (s : State) (b : BankIx) : (flushLine s).bank b = flushBank (s.bank b) := by
  simp [State.bank]

@[simp] theorem flushLine_handed_banks (s : State) :
    (flushLine s).handed.banks = s.handed.banks.map fun h => { h with retired := [] } := by
  simp [flushLine]

@[simp] theorem flushLine_bankHanded (s : State) (b : BankIx) :
    (flushLine s).bankHanded b = { s.bankHanded b with retired := [] } := by
  simp [State.bankHanded]

/-! ## A flush with its change of mode -/

/-- Of a mode taken before an entry into STANDBY, TEST or FAULT nothing remains (R105, R108). -/
theorem takeMode_takeMode (m x : Mode) (u : BankUnit) (h : m.firing = false) :
    takeMode m (takeMode x u) = takeMode m u := by
  cases hx : x.firing <;> simp [takeMode, h, hx, clearComposed]

/-- A bank that first takes every change still waiting for it, and then an entry into STANDBY, TEST or FAULT, ends as one that
takes that entry alone: what `flushInto` leaves out of the waiting changes has no effect (R88, R108). -/
theorem takeMode_after_waiting (m : Mode) (waiting : List Mode) (u : BankUnit) (h : m.firing = false) :
    takeMode m (waiting.foldl (fun v x => takeMode x v) u) = takeMode m u := by
  induction waiting generalizing u with
  | nil => rfl
  | cons x xs ih => rw [List.foldl_cons, ih, takeMode_takeMode m x u h]

@[simp] theorem takeMode_keeps (m : Mode) (u : BankUnit) :
    (takeMode m u).mode = m ∧ (takeMode m u).desc = u.desc ∧ (takeMode m u).windows = u.windows
      ∧ (takeMode m u).latched = u.latched ∧ (takeMode m u).airLow = u.airLow ∧ (takeMode m u).holdEnd = u.holdEnd
      ∧ (takeMode m u).airReport = u.airReport ∧ (takeMode m u).inhibit = u.inhibit
      ∧ (takeMode m u).counters = u.counters := by
  cases h : m.firing <;> simp [takeMode, h, clearComposed]

@[simp] theorem flushInto_frame (m : Mode) (s : State) :
    (flushInto m s).pending = s.pending ∧ (flushInto m s).inReset = s.inReset
      ∧ (flushInto m s).nodeAddr = s.nodeAddr ∧ (flushInto m s).stopn = s.stopn
      ∧ (flushInto m s).pos = s.pos ∧ (flushInto m s).intake = s.intake ∧ (flushInto m s).cls = s.cls
      ∧ (flushInto m s).station = s.station ∧ (flushInto m s).portU = s.portU
      ∧ (flushInto m s).portD = s.portD ∧ (flushInto m s).proving = s.proving
      ∧ (flushInto m s).mgmt = s.mgmt ∧ (flushInto m s).handed.detects = s.handed.detects
      ∧ (flushInto m s).handed.requests = s.handed.requests
      ∧ (flushInto m s).handed.burden = s.handed.burden ∧ (flushInto m s).handed.ring = s.handed.ring
      ∧ (flushInto m s).handed.encoder = s.handed.encoder
      ∧ (flushInto m s).handed.reversal = s.handed.reversal
      ∧ (flushInto m s).handed.trackEmpty = s.handed.trackEmpty
      ∧ (flushInto m s).handed.portUMode = s.handed.portUMode
      ∧ (flushInto m s).handed.portUStation = s.handed.portUStation
      ∧ (flushInto m s).handed.portDStation = s.handed.portDStation
      ∧ (flushInto m s).handed.portDExpiry = s.handed.portDExpiry
      ∧ (flushInto m s).mc.cause = s.mc.cause
      ∧ (flushInto m s).mc.drainStart = s.mc.drainStart
      ∧ (flushInto m s).mc.blindStart = s.mc.blindStart ∧ (flushInto m s).mc.blindEnd = s.mc.blindEnd := by
  simp [flushInto]

@[simp] theorem flushInto_frame_at (m : Mode) (s : State) :
    (∀ q, (flushInto m s).link q = s.link q) ∧ (∀ q, (flushInto m s).linked q = s.linked q) := by
  exact ⟨State.link_congr (by simp) (by simp),
    fun q => State.linked_congr (State.link_congr (by simp) (by simp) q)⟩

@[simp] theorem flushInto_mc (m : Mode) (s : State) : (flushInto m s).mc = { s.mc with mode := m } := by simp [flushInto]

@[simp] theorem flushInto_track (m : Mode) (s : State) : (flushInto m s).track = [] := by simp [flushInto]

@[simp] theorem flushInto_banks (m : Mode) (s : State) :
    (flushInto m s).banks = s.banks.map fun u => takeMode m (flushBank u) := by
  simp [flushInto]

@[simp] theorem flushInto_bank (m : Mode) (s : State) (b : BankIx) :
    (flushInto m s).bank b = takeMode m (flushBank (s.bank b)) := by
  simp [State.bank]

@[simp] theorem flushInto_stationModes (m : Mode) (s : State) :
    (flushInto m s).handed.stationModes = s.handed.stationModes ++ [m] := by
  simp [flushInto]

@[simp] theorem flushInto_bankHanded (m : Mode) (s : State) (b : BankIx) :
    (flushInto m s).bankHanded b = { s.bankHanded b with retired := [], modes := [] } := by
  simp [flushInto, State.bankHanded]

/-! ## Entry into FAULT -/

@[simp] theorem faultEntry_frame (cause : FaultCause) (s : State) :
    (faultEntry cause s).pending = s.pending ∧ (faultEntry cause s).inReset = s.inReset
      ∧ (faultEntry cause s).nodeAddr = s.nodeAddr ∧ (faultEntry cause s).stopn = s.stopn
      ∧ (faultEntry cause s).pos = s.pos ∧ (faultEntry cause s).intake = s.intake ∧ (faultEntry cause s).cls = s.cls
      ∧ (faultEntry cause s).station = s.station ∧ (faultEntry cause s).portU = s.portU
      ∧ (faultEntry cause s).portD = s.portD ∧ (faultEntry cause s).proving = s.proving
      ∧ (faultEntry cause s).mgmt = s.mgmt ∧ (faultEntry cause s).handed.detects = s.handed.detects
      ∧ (faultEntry cause s).handed.requests = s.handed.requests
      ∧ (faultEntry cause s).handed.burden = s.handed.burden ∧ (faultEntry cause s).handed.ring = s.handed.ring
      ∧ (faultEntry cause s).handed.encoder = s.handed.encoder
      ∧ (faultEntry cause s).handed.reversal = s.handed.reversal
      ∧ (faultEntry cause s).handed.trackEmpty = s.handed.trackEmpty
      ∧ (faultEntry cause s).handed.portUMode = s.handed.portUMode
      ∧ (faultEntry cause s).handed.portUStation = s.handed.portUStation
      ∧ (faultEntry cause s).handed.portDStation = s.handed.portDStation
      ∧ (faultEntry cause s).handed.portDExpiry = s.handed.portDExpiry
      ∧ (faultEntry cause s).mc.drainStart = s.mc.drainStart
      ∧ (faultEntry cause s).mc.blindStart = s.mc.blindStart ∧ (faultEntry cause s).mc.blindEnd = s.mc.blindEnd := by
  simp [faultEntry]

@[simp] theorem faultEntry_frame_at (cause : FaultCause) (s : State) :
    (∀ q, (faultEntry cause s).link q = s.link q) ∧ (∀ q, (faultEntry cause s).linked q = s.linked q) := by
  exact ⟨State.link_congr (by simp) (by simp),
    fun q => State.linked_congr (State.link_congr (by simp) (by simp) q)⟩

@[simp] theorem faultEntry_mc (cause : FaultCause) (s : State) :
    (faultEntry cause s).mc = { s.mc with mode := .fault, cause := cause } := by
  simp [faultEntry]

@[simp] theorem faultEntry_track (cause : FaultCause) (s : State) : (faultEntry cause s).track = [] := by simp [faultEntry]

@[simp] theorem faultEntry_banks (cause : FaultCause) (s : State) :
    (faultEntry cause s).banks = s.banks.map fun u => takeMode .fault (flushBank u) := by
  simp [faultEntry]

@[simp] theorem faultEntry_bank (cause : FaultCause) (s : State) (b : BankIx) :
    (faultEntry cause s).bank b = takeMode .fault (flushBank (s.bank b)) := by
  simp [State.bank]

@[simp] theorem faultEntry_stationModes (cause : FaultCause) (s : State) :
    (faultEntry cause s).handed.stationModes = s.handed.stationModes ++ [.fault] := by
  simp [faultEntry]

@[simp] theorem faultEntry_bankHanded (cause : FaultCause) (s : State) (b : BankIx) :
    (faultEntry cause s).bankHanded b = { s.bankHanded b with retired := [], modes := [] } := by
  simp only [faultEntry, flushInto_bankHanded]
  rfl

/-! ## The hold-reason set is replaced -/

@[simp] theorem setHolds_frame (h : HoldSet) (s : State) :
    (setHolds h s).pending = s.pending ∧ (setHolds h s).inReset = s.inReset ∧ (setHolds h s).nodeAddr = s.nodeAddr
      ∧ (setHolds h s).stopn = s.stopn ∧ (setHolds h s).pos = s.pos ∧ (setHolds h s).intake = s.intake
      ∧ (setHolds h s).cls = s.cls ∧ (setHolds h s).track = s.track ∧ (setHolds h s).banks = s.banks
      ∧ (setHolds h s).mc = s.mc ∧ (setHolds h s).portU = s.portU ∧ (setHolds h s).proving = s.proving
      ∧ (setHolds h s).mgmt = s.mgmt ∧ (setHolds h s).handed = s.handed ∧ (setHolds h s).portD.link = s.portD.link
      ∧ (setHolds h s).portD.unknownSource = s.portD.unknownSource
      ∧ (setHolds h s).portD.relayDrops = s.portD.relayDrops
      ∧ (setHolds h s).portD.fireOverruns = s.portD.fireOverruns := by
  unfold setHolds; dsimp only; split <;> simp

@[simp] theorem setHolds_frame_at (h : HoldSet) (s : State) :
    (∀ c, (setHolds h s).bank c = s.bank c) ∧ (∀ c, (setHolds h s).bankHanded c = s.bankHanded c)
      ∧ (∀ q, (setHolds h s).link q = s.link q) ∧ (∀ q, (setHolds h s).linked q = s.linked q) := by
  exact ⟨fun c => State.bank_congr (by simp) c,
    fun c => State.bankHanded_congr (by simp) c,
    State.link_congr (by simp) (by simp),
    fun q => State.linked_congr (State.link_congr (by simp) (by simp) q)⟩

@[simp] theorem setHolds_station (h : HoldSet) (s : State) :
    (setHolds h s).station = { s.station with holds := h, command := h.command } := by
  unfold setHolds; dsimp only; split <;> simp [Station.settle]

/-! ## The splitter is commanded -/

@[simp] theorem commandSplitter_frame (s : State) :
    (commandSplitter s).pending = s.pending ∧ (commandSplitter s).inReset = s.inReset
      ∧ (commandSplitter s).nodeAddr = s.nodeAddr ∧ (commandSplitter s).stopn = s.stopn
      ∧ (commandSplitter s).pos = s.pos ∧ (commandSplitter s).intake = s.intake ∧ (commandSplitter s).cls = s.cls
      ∧ (commandSplitter s).track = s.track ∧ (commandSplitter s).banks = s.banks ∧ (commandSplitter s).mc = s.mc
      ∧ (commandSplitter s).portU = s.portU ∧ (commandSplitter s).proving = s.proving
      ∧ (commandSplitter s).mgmt = s.mgmt ∧ (commandSplitter s).handed = s.handed
      ∧ (commandSplitter s).portD.link = s.portD.link
      ∧ (commandSplitter s).portD.unknownSource = s.portD.unknownSource
      ∧ (commandSplitter s).portD.relayDrops = s.portD.relayDrops
      ∧ (commandSplitter s).portD.fireOverruns = s.portD.fireOverruns := by
  simp [commandSplitter]

@[simp] theorem commandSplitter_frame_at (s : State) :
    (∀ c, (commandSplitter s).bank c = s.bank c) ∧ (∀ c, (commandSplitter s).bankHanded c = s.bankHanded c)
      ∧ (∀ q, (commandSplitter s).link q = s.link q) ∧ (∀ q, (commandSplitter s).linked q = s.linked q) := by
  exact ⟨fun c => State.bank_congr (by simp) c,
    fun c => State.bankHanded_congr (by simp) c,
    State.link_congr (by simp) (by simp),
    fun q => State.linked_congr (State.link_congr (by simp) (by simp) q)⟩

@[simp] theorem commandSplitter_station (s : State) :
    (commandSplitter s).station = { s.station with splitter := s.station.bands[s.station.band].split } := by
  simp [commandSplitter]

/-! ## An AIR report is made -/

@[simp] theorem reportAir_frame (i : BankIx) (s : State) :
    (reportAir i s).pending = s.pending ∧ (reportAir i s).inReset = s.inReset ∧ (reportAir i s).nodeAddr = s.nodeAddr
      ∧ (reportAir i s).stopn = s.stopn ∧ (reportAir i s).pos = s.pos ∧ (reportAir i s).intake = s.intake
      ∧ (reportAir i s).cls = s.cls ∧ (reportAir i s).track = s.track ∧ (reportAir i s).station = s.station
      ∧ (reportAir i s).mc = s.mc ∧ (reportAir i s).portU = s.portU ∧ (reportAir i s).portD = s.portD
      ∧ (reportAir i s).proving = s.proving ∧ (reportAir i s).mgmt = s.mgmt
      ∧ (reportAir i s).handed.detects = s.handed.detects ∧ (reportAir i s).handed.requests = s.handed.requests
      ∧ (reportAir i s).handed.burden = s.handed.burden ∧ (reportAir i s).handed.ring = s.handed.ring
      ∧ (reportAir i s).handed.encoder = s.handed.encoder ∧ (reportAir i s).handed.reversal = s.handed.reversal
      ∧ (reportAir i s).handed.trackEmpty = s.handed.trackEmpty
      ∧ (reportAir i s).handed.occupancy = s.handed.occupancy ∧ (reportAir i s).handed.portUMode = s.handed.portUMode
      ∧ (reportAir i s).handed.portUStation = s.handed.portUStation
      ∧ (reportAir i s).handed.portDStation = s.handed.portDStation
      ∧ (reportAir i s).handed.portDExpiry = s.handed.portDExpiry
      ∧ (reportAir i s).handed.stationModes = s.handed.stationModes := by
  unfold reportAir; dsimp only; split <;> simp

@[simp] theorem reportAir_frame_at (i : BankIx) (s : State) :
    (∀ q, (reportAir i s).link q = s.link q) ∧ (∀ q, (reportAir i s).linked q = s.linked q) := by
  exact ⟨State.link_congr (by simp) (by simp),
    fun q => State.linked_congr (State.link_congr (by simp) (by simp) q)⟩

/-! ## A hold that ran out is settled -/

@[simp] theorem endHold_frame (i : BankIx) (s : State) :
    (endHold i s).pending = s.pending ∧ (endHold i s).inReset = s.inReset ∧ (endHold i s).nodeAddr = s.nodeAddr
      ∧ (endHold i s).stopn = s.stopn ∧ (endHold i s).pos = s.pos ∧ (endHold i s).intake = s.intake
      ∧ (endHold i s).cls = s.cls ∧ (endHold i s).track = s.track ∧ (endHold i s).station = s.station
      ∧ (endHold i s).mc = s.mc ∧ (endHold i s).portU = s.portU ∧ (endHold i s).portD = s.portD
      ∧ (endHold i s).proving = s.proving ∧ (endHold i s).mgmt = s.mgmt
      ∧ (endHold i s).handed.detects = s.handed.detects ∧ (endHold i s).handed.requests = s.handed.requests
      ∧ (endHold i s).handed.burden = s.handed.burden ∧ (endHold i s).handed.ring = s.handed.ring
      ∧ (endHold i s).handed.encoder = s.handed.encoder ∧ (endHold i s).handed.reversal = s.handed.reversal
      ∧ (endHold i s).handed.trackEmpty = s.handed.trackEmpty ∧ (endHold i s).handed.occupancy = s.handed.occupancy
      ∧ (endHold i s).handed.portUMode = s.handed.portUMode
      ∧ (endHold i s).handed.portUStation = s.handed.portUStation
      ∧ (endHold i s).handed.portDStation = s.handed.portDStation
      ∧ (endHold i s).handed.portDExpiry = s.handed.portDExpiry
      ∧ (endHold i s).handed.stationModes = s.handed.stationModes := by
  unfold endHold; dsimp only; split <;> [split; skip] <;> simp

@[simp] theorem endHold_frame_at (i : BankIx) (s : State) :
    (∀ q, (endHold i s).link q = s.link q) ∧ (∀ q, (endHold i s).linked q = s.linked q) := by
  exact ⟨State.link_congr (by simp) (by simp),
    fun q => State.linked_congr (State.link_congr (by simp) (by simp) q)⟩

/-! ## A SOFT RESET that waits becomes due -/

@[simp] theorem resetDue_frame (s : State) :
    (resetDue s).pending = s.pending ∧ (resetDue s).inReset = s.inReset ∧ (resetDue s).nodeAddr = s.nodeAddr
      ∧ (resetDue s).stopn = s.stopn ∧ (resetDue s).pos = s.pos ∧ (resetDue s).intake = s.intake
      ∧ (resetDue s).cls = s.cls ∧ (resetDue s).track = s.track ∧ (resetDue s).banks = s.banks
      ∧ (resetDue s).station = s.station ∧ (resetDue s).mc = s.mc ∧ (resetDue s).portU = s.portU
      ∧ (resetDue s).portD = s.portD ∧ (resetDue s).proving = s.proving ∧ (resetDue s).handed = s.handed
      ∧ (resetDue s).mgmt.queue = s.mgmt.queue ∧ (resetDue s).mgmt.flags = s.mgmt.flags
      ∧ (resetDue s).mgmt.mask = s.mgmt.mask ∧ (resetDue s).mgmt.alert = s.mgmt.alert
      ∧ (resetDue s).mgmt.line = s.mgmt.line := by
  unfold resetDue; split <;> (and_intros <;> rfl)

@[simp] theorem resetDue_frame_at (s : State) :
    (∀ c, (resetDue s).bank c = s.bank c) ∧ (∀ c, (resetDue s).bankHanded c = s.bankHanded c)
      ∧ (∀ q, (resetDue s).link q = s.link q) ∧ (∀ q, (resetDue s).linked q = s.linked q) := by
  exact ⟨fun c => State.bank_congr (by simp) c,
    fun c => State.bankHanded_congr (by simp) c,
    State.link_congr (by simp) (by simp),
    fun q => State.linked_congr (State.link_congr (by simp) (by simp) q)⟩

/-! ## The frame on the return lane is cut off -/

@[simp] theorem cutReturn_frame (s : State) :
    (cutReturn s).pending = s.pending ∧ (cutReturn s).inReset = s.inReset ∧ (cutReturn s).nodeAddr = s.nodeAddr
      ∧ (cutReturn s).stopn = s.stopn ∧ (cutReturn s).pos = s.pos ∧ (cutReturn s).intake = s.intake
      ∧ (cutReturn s).cls = s.cls ∧ (cutReturn s).track = s.track ∧ (cutReturn s).banks = s.banks
      ∧ (cutReturn s).station = s.station ∧ (cutReturn s).mc = s.mc ∧ (cutReturn s).portD = s.portD
      ∧ (cutReturn s).proving = s.proving ∧ (cutReturn s).mgmt = s.mgmt ∧ (cutReturn s).handed = s.handed
      ∧ (cutReturn s).portU.link = s.portU.link ∧ (cutReturn s).portU.queue = s.portU.queue := by
  unfold cutReturn; split <;> [skip; split] <;> (and_intros <;> rfl)

@[simp] theorem cutReturn_frame_at (s : State) :
    (∀ c, (cutReturn s).bank c = s.bank c) ∧ (∀ c, (cutReturn s).bankHanded c = s.bankHanded c)
      ∧ (∀ q, (cutReturn s).link q = s.link q) ∧ (∀ q, (cutReturn s).linked q = s.linked q) := by
  exact ⟨fun c => State.bank_congr (by simp) c,
    fun c => State.bankHanded_congr (by simp) c,
    State.link_congr (by simp) (by simp),
    fun q => State.linked_congr (State.link_congr (by simp) (by simp) q)⟩

/-! ## The frames of Port D are cut off -/

@[simp] theorem cutForward_frame (s : State) :
    (cutForward s).pending = s.pending ∧ (cutForward s).inReset = s.inReset ∧ (cutForward s).nodeAddr = s.nodeAddr
      ∧ (cutForward s).stopn = s.stopn ∧ (cutForward s).pos = s.pos ∧ (cutForward s).intake = s.intake
      ∧ (cutForward s).cls = s.cls ∧ (cutForward s).track = s.track ∧ (cutForward s).banks = s.banks
      ∧ (cutForward s).station = s.station ∧ (cutForward s).mc = s.mc ∧ (cutForward s).portU = s.portU
      ∧ (cutForward s).proving = s.proving ∧ (cutForward s).mgmt = s.mgmt ∧ (cutForward s).handed = s.handed
      ∧ (cutForward s).portD.link = s.portD.link ∧ (cutForward s).portD.relay = s.portD.relay
      ∧ (cutForward s).portD.unknownSource = s.portD.unknownSource
      ∧ (cutForward s).portD.fireOverruns = s.portD.fireOverruns := by
  and_intros <;> rfl

@[simp] theorem cutForward_frame_at (s : State) :
    (∀ c, (cutForward s).bank c = s.bank c) ∧ (∀ c, (cutForward s).bankHanded c = s.bankHanded c)
      ∧ (∀ q, (cutForward s).link q = s.link q) ∧ (∀ q, (cutForward s).linked q = s.linked q) := by
  exact ⟨fun c => State.bank_congr (by simp) c,
    fun c => State.bankHanded_congr (by simp) c,
    State.link_congr (by simp) (by simp),
    fun q => State.linked_congr (State.link_congr (by simp) (by simp) q)⟩

/-! ## Port U's report -/

@[simp] theorem reportU_frame (r : LinkReport) (s : State) :
    (reportU r s).pending = s.pending ∧ (reportU r s).inReset = s.inReset ∧ (reportU r s).nodeAddr = s.nodeAddr
      ∧ (reportU r s).stopn = s.stopn ∧ (reportU r s).pos = s.pos ∧ (reportU r s).intake = s.intake
      ∧ (reportU r s).cls = s.cls ∧ (reportU r s).track = s.track ∧ (reportU r s).banks = s.banks
      ∧ (reportU r s).station = s.station ∧ (reportU r s).mc = s.mc ∧ (reportU r s).portU = s.portU
      ∧ (reportU r s).portD = s.portD ∧ (reportU r s).proving = s.proving ∧ (reportU r s).mgmt = s.mgmt
      ∧ (reportU r s).handed.detects = s.handed.detects ∧ (reportU r s).handed.requests = s.handed.requests
      ∧ (reportU r s).handed.burden = s.handed.burden ∧ (reportU r s).handed.ring = s.handed.ring
      ∧ (reportU r s).handed.encoder = s.handed.encoder ∧ (reportU r s).handed.reversal = s.handed.reversal
      ∧ (reportU r s).handed.trackEmpty = s.handed.trackEmpty ∧ (reportU r s).handed.occupancy = s.handed.occupancy
      ∧ (reportU r s).handed.portDStation = s.handed.portDStation
      ∧ (reportU r s).handed.portDExpiry = s.handed.portDExpiry
      ∧ (reportU r s).handed.stationModes = s.handed.stationModes ∧ (reportU r s).handed.banks = s.handed.banks := by
  and_intros <;> rfl

@[simp] theorem reportU_frame_at (r : LinkReport) (s : State) :
    (∀ c, (reportU r s).bank c = s.bank c) ∧ (∀ c, (reportU r s).bankHanded c = s.bankHanded c)
      ∧ (∀ q, (reportU r s).link q = s.link q) ∧ (∀ q, (reportU r s).linked q = s.linked q) := by
  exact ⟨fun c => State.bank_congr (by simp) c,
    fun c => State.bankHanded_congr (by simp) c,
    State.link_congr (by simp) (by simp),
    fun q => State.linked_congr (State.link_congr (by simp) (by simp) q)⟩

/-! ## Port D's report -/

@[simp] theorem reportD_frame (r : LinkReport) (s : State) :
    (reportD r s).pending = s.pending ∧ (reportD r s).inReset = s.inReset ∧ (reportD r s).nodeAddr = s.nodeAddr
      ∧ (reportD r s).stopn = s.stopn ∧ (reportD r s).pos = s.pos ∧ (reportD r s).intake = s.intake
      ∧ (reportD r s).cls = s.cls ∧ (reportD r s).track = s.track ∧ (reportD r s).banks = s.banks
      ∧ (reportD r s).station = s.station ∧ (reportD r s).mc = s.mc ∧ (reportD r s).portU = s.portU
      ∧ (reportD r s).portD = s.portD ∧ (reportD r s).proving = s.proving ∧ (reportD r s).mgmt = s.mgmt
      ∧ (reportD r s).handed.detects = s.handed.detects ∧ (reportD r s).handed.requests = s.handed.requests
      ∧ (reportD r s).handed.burden = s.handed.burden ∧ (reportD r s).handed.ring = s.handed.ring
      ∧ (reportD r s).handed.encoder = s.handed.encoder ∧ (reportD r s).handed.reversal = s.handed.reversal
      ∧ (reportD r s).handed.trackEmpty = s.handed.trackEmpty ∧ (reportD r s).handed.occupancy = s.handed.occupancy
      ∧ (reportD r s).handed.portUMode = s.handed.portUMode
      ∧ (reportD r s).handed.portUStation = s.handed.portUStation
      ∧ (reportD r s).handed.portDExpiry = s.handed.portDExpiry
      ∧ (reportD r s).handed.stationModes = s.handed.stationModes ∧ (reportD r s).handed.banks = s.handed.banks := by
  and_intros <;> rfl

@[simp] theorem reportD_frame_at (r : LinkReport) (s : State) :
    (∀ c, (reportD r s).bank c = s.bank c) ∧ (∀ c, (reportD r s).bankHanded c = s.bankHanded c)
      ∧ (∀ q, (reportD r s).link q = s.link q) ∧ (∀ q, (reportD r s).linked q = s.linked q) := by
  exact ⟨fun c => State.bank_congr (by simp) c,
    fun c => State.bankHanded_congr (by simp) c,
    State.link_congr (by simp) (by simp),
    fun q => State.linked_congr (State.link_congr (by simp) (by simp) q)⟩

/-! ## A report of expiry -/

@[simp] theorem reportExpiry_frame (p : PortId) (s : State) :
    (reportExpiry p s).pending = s.pending ∧ (reportExpiry p s).inReset = s.inReset
      ∧ (reportExpiry p s).nodeAddr = s.nodeAddr ∧ (reportExpiry p s).stopn = s.stopn
      ∧ (reportExpiry p s).pos = s.pos ∧ (reportExpiry p s).intake = s.intake ∧ (reportExpiry p s).cls = s.cls
      ∧ (reportExpiry p s).track = s.track ∧ (reportExpiry p s).banks = s.banks
      ∧ (reportExpiry p s).station = s.station ∧ (reportExpiry p s).mc = s.mc ∧ (reportExpiry p s).portU = s.portU
      ∧ (reportExpiry p s).portD = s.portD ∧ (reportExpiry p s).proving = s.proving
      ∧ (reportExpiry p s).mgmt = s.mgmt ∧ (reportExpiry p s).handed.detects = s.handed.detects
      ∧ (reportExpiry p s).handed.requests = s.handed.requests ∧ (reportExpiry p s).handed.burden = s.handed.burden
      ∧ (reportExpiry p s).handed.ring = s.handed.ring ∧ (reportExpiry p s).handed.encoder = s.handed.encoder
      ∧ (reportExpiry p s).handed.reversal = s.handed.reversal
      ∧ (reportExpiry p s).handed.trackEmpty = s.handed.trackEmpty
      ∧ (reportExpiry p s).handed.occupancy = s.handed.occupancy
      ∧ (reportExpiry p s).handed.portUStation = s.handed.portUStation
      ∧ (reportExpiry p s).handed.portDStation = s.handed.portDStation
      ∧ (reportExpiry p s).handed.stationModes = s.handed.stationModes
      ∧ (reportExpiry p s).handed.banks = s.handed.banks := by
  cases p <;> and_intros <;> rfl

@[simp] theorem reportExpiry_frame_at (p : PortId) (s : State) :
    (∀ c, (reportExpiry p s).bank c = s.bank c) ∧ (∀ c, (reportExpiry p s).bankHanded c = s.bankHanded c)
      ∧ (∀ q, (reportExpiry p s).link q = s.link q) ∧ (∀ q, (reportExpiry p s).linked q = s.linked q) := by
  exact ⟨fun c => State.bank_congr (by simp) c,
    fun c => State.bankHanded_congr (by simp) c,
    State.link_congr (by simp) (by simp),
    fun q => State.linked_congr (State.link_congr (by simp) (by simp) q)⟩

/-- What a report of expiry leaves waiting at the Mode Controller: Port U's behind its earlier reports (R144, R151). -/
theorem reportExpiry_reports (p : PortId) (s : State) :
    (reportExpiry p s).handed.portUMode = s.handed.portUMode ++ (if p = .u then [.expiry] else [])
      ∧ (reportExpiry p s).handed.portDExpiry = s.handed.portDExpiry + (if p = .d then 1 else 0) := by
  cases p <;> simp [reportExpiry]

/-! ## A port leaves LINKED -/

@[simp] theorem leaveEffects_frame (p : PortId) (s : State) :
    (leaveEffects p s).pending = s.pending ∧ (leaveEffects p s).inReset = s.inReset
      ∧ (leaveEffects p s).nodeAddr = s.nodeAddr ∧ (leaveEffects p s).stopn = s.stopn ∧ (leaveEffects p s).pos = s.pos
      ∧ (leaveEffects p s).intake = s.intake ∧ (leaveEffects p s).cls = s.cls ∧ (leaveEffects p s).track = s.track
      ∧ (leaveEffects p s).banks = s.banks ∧ (leaveEffects p s).station = s.station ∧ (leaveEffects p s).mc = s.mc
      ∧ (leaveEffects p s).proving = s.proving ∧ (leaveEffects p s).handed.detects = s.handed.detects
      ∧ (leaveEffects p s).handed.requests = s.handed.requests ∧ (leaveEffects p s).handed.burden = s.handed.burden
      ∧ (leaveEffects p s).handed.ring = s.handed.ring ∧ (leaveEffects p s).handed.encoder = s.handed.encoder
      ∧ (leaveEffects p s).handed.reversal = s.handed.reversal
      ∧ (leaveEffects p s).handed.trackEmpty = s.handed.trackEmpty
      ∧ (leaveEffects p s).handed.occupancy = s.handed.occupancy
      ∧ (leaveEffects p s).handed.portDExpiry = s.handed.portDExpiry
      ∧ (leaveEffects p s).handed.stationModes = s.handed.stationModes
      ∧ (leaveEffects p s).handed.banks = s.handed.banks ∧ (leaveEffects p s).mgmt.queue = s.mgmt.queue
      ∧ (leaveEffects p s).mgmt.flags = s.mgmt.flags ∧ (leaveEffects p s).mgmt.mask = s.mgmt.mask
      ∧ (leaveEffects p s).mgmt.alert = s.mgmt.alert ∧ (leaveEffects p s).mgmt.line = s.mgmt.line
      ∧ (leaveEffects p s).portU.link = s.portU.link ∧ (leaveEffects p s).portU.queue = s.portU.queue
      ∧ (leaveEffects p s).portD.link = s.portD.link ∧ (leaveEffects p s).portD.relay = s.portD.relay
      ∧ (leaveEffects p s).portD.unknownSource = s.portD.unknownSource
      ∧ (leaveEffects p s).portD.fireOverruns = s.portD.fireOverruns := by
  cases p <;> simp [leaveEffects]

@[simp] theorem leaveEffects_frame_at (p : PortId) (s : State) :
    (∀ c, (leaveEffects p s).bank c = s.bank c) ∧ (∀ c, (leaveEffects p s).bankHanded c = s.bankHanded c)
      ∧ (∀ q, (leaveEffects p s).link q = s.link q) ∧ (∀ q, (leaveEffects p s).linked q = s.linked q) := by
  exact ⟨fun c => State.bank_congr (by simp) c,
    fun c => State.bankHanded_congr (by simp) c,
    State.link_congr (by simp) (by simp),
    fun q => State.linked_congr (State.link_congr (by simp) (by simp) q)⟩

/-! ## A port drops its link -/

@[simp] theorem dropLink_frame (p : PortId) (st : PortState) (s : State) :
    (dropLink p st s).pending = s.pending ∧ (dropLink p st s).inReset = s.inReset
      ∧ (dropLink p st s).nodeAddr = s.nodeAddr ∧ (dropLink p st s).stopn = s.stopn ∧ (dropLink p st s).pos = s.pos
      ∧ (dropLink p st s).intake = s.intake ∧ (dropLink p st s).cls = s.cls ∧ (dropLink p st s).track = s.track
      ∧ (dropLink p st s).banks = s.banks ∧ (dropLink p st s).station = s.station ∧ (dropLink p st s).mc = s.mc
      ∧ (dropLink p st s).proving = s.proving ∧ (dropLink p st s).handed.detects = s.handed.detects
      ∧ (dropLink p st s).handed.requests = s.handed.requests ∧ (dropLink p st s).handed.burden = s.handed.burden
      ∧ (dropLink p st s).handed.ring = s.handed.ring ∧ (dropLink p st s).handed.encoder = s.handed.encoder
      ∧ (dropLink p st s).handed.reversal = s.handed.reversal
      ∧ (dropLink p st s).handed.trackEmpty = s.handed.trackEmpty
      ∧ (dropLink p st s).handed.occupancy = s.handed.occupancy
      ∧ (dropLink p st s).handed.portDExpiry = s.handed.portDExpiry
      ∧ (dropLink p st s).handed.stationModes = s.handed.stationModes
      ∧ (dropLink p st s).handed.banks = s.handed.banks ∧ (dropLink p st s).mgmt.queue = s.mgmt.queue
      ∧ (dropLink p st s).mgmt.flags = s.mgmt.flags ∧ (dropLink p st s).mgmt.mask = s.mgmt.mask
      ∧ (dropLink p st s).mgmt.alert = s.mgmt.alert ∧ (dropLink p st s).mgmt.line = s.mgmt.line
      ∧ (dropLink p st s).portU.queue = s.portU.queue ∧ (dropLink p st s).portD.relay = s.portD.relay
      ∧ (dropLink p st s).portD.unknownSource = s.portD.unknownSource
      ∧ (dropLink p st s).portD.fireOverruns = s.portD.fireOverruns := by
  cases p <;> simp [dropLink]

@[simp] theorem dropLink_bank (p : PortId) (st : PortState) (s : State) (c : BankIx) : (dropLink p st s).bank c = s.bank c :=
  State.bank_congr (by simp) c

@[simp] theorem dropLink_bankHanded (p : PortId) (st : PortState) (s : State) (c : BankIx) :
    (dropLink p st s).bankHanded c = s.bankHanded c :=
  State.bankHanded_congr (by simp) c

theorem dropLink_link (p : PortId) (st : PortState) (s : State) :
    (dropLink p st s).link p = { ((s.link p).enter st) with retrains := satInc (s.link p).retrains } := by
  simp [dropLink]

/-! ## A port becomes LINKED -/

@[simp] theorem becomeLinked_frame (p : PortId) (s : State) :
    (becomeLinked p s).pending = s.pending ∧ (becomeLinked p s).inReset = s.inReset
      ∧ (becomeLinked p s).nodeAddr = s.nodeAddr ∧ (becomeLinked p s).stopn = s.stopn ∧ (becomeLinked p s).pos = s.pos
      ∧ (becomeLinked p s).intake = s.intake ∧ (becomeLinked p s).cls = s.cls ∧ (becomeLinked p s).track = s.track
      ∧ (becomeLinked p s).banks = s.banks ∧ (becomeLinked p s).station = s.station ∧ (becomeLinked p s).mc = s.mc
      ∧ (becomeLinked p s).proving = s.proving ∧ (becomeLinked p s).mgmt = s.mgmt
      ∧ (becomeLinked p s).handed.detects = s.handed.detects ∧ (becomeLinked p s).handed.requests = s.handed.requests
      ∧ (becomeLinked p s).handed.burden = s.handed.burden ∧ (becomeLinked p s).handed.ring = s.handed.ring
      ∧ (becomeLinked p s).handed.encoder = s.handed.encoder ∧ (becomeLinked p s).handed.reversal = s.handed.reversal
      ∧ (becomeLinked p s).handed.trackEmpty = s.handed.trackEmpty
      ∧ (becomeLinked p s).handed.occupancy = s.handed.occupancy
      ∧ (becomeLinked p s).handed.portDExpiry = s.handed.portDExpiry
      ∧ (becomeLinked p s).handed.stationModes = s.handed.stationModes
      ∧ (becomeLinked p s).handed.banks = s.handed.banks ∧ (becomeLinked p s).portU.relayDrops = s.portU.relayDrops
      ∧ (becomeLinked p s).portU.returnDrops = s.portU.returnDrops
      ∧ (becomeLinked p s).portD.unknownSource = s.portD.unknownSource
      ∧ (becomeLinked p s).portD.relayDrops = s.portD.relayDrops
      ∧ (becomeLinked p s).portD.fireOverruns = s.portD.fireOverruns := by
  cases p <;> simp [becomeLinked]

/-! ## A proving run ends -/

@[simp] theorem endRun_proving_result (s : State) : (endRun s).proving.result = s.proving.result := by
  unfold endRun; split <;> rfl

@[simp] theorem endRun_frame (s : State) :
    (endRun s).pending = s.pending ∧ (endRun s).inReset = s.inReset ∧ (endRun s).nodeAddr = s.nodeAddr
      ∧ (endRun s).stopn = s.stopn ∧ (endRun s).pos = s.pos ∧ (endRun s).intake = s.intake ∧ (endRun s).cls = s.cls
      ∧ (endRun s).track = s.track ∧ (endRun s).banks = s.banks ∧ (endRun s).station = s.station
      ∧ (endRun s).mc = s.mc ∧ (endRun s).mgmt = s.mgmt ∧ (endRun s).handed = s.handed
      ∧ (endRun s).portU.queue = s.portU.queue ∧ (endRun s).portU.tx = s.portU.tx
      ∧ (endRun s).portU.relayDrops = s.portU.relayDrops ∧ (endRun s).portU.returnDrops = s.portU.returnDrops
      ∧ (endRun s).portD.fire = s.portD.fire ∧ (endRun s).portD.drive = s.portD.drive
      ∧ (endRun s).portD.relay = s.portD.relay ∧ (endRun s).portD.tx = s.portD.tx
      ∧ (endRun s).portD.unknownSource = s.portD.unknownSource ∧ (endRun s).portD.relayDrops = s.portD.relayDrops
      ∧ (endRun s).portD.fireOverruns = s.portD.fireOverruns := by
  unfold endRun; split
  · simp
  · rename_i run _; rcases run with ⟨p, _, _⟩; cases p <;> simp [leaveProving]

end Sys2Proof.Machine
end

