-- ==== Sys2Proof/Laws/Blocks.lean ====
section
/-! SUPPORT. The same for the larger operations of each block: what each leaves alone; a proof cites it and never unfolds the
operation. -/

namespace Sys2Proof.Machine

/-! ## The Position Unit's end of a slot -/

@[simp] theorem clockBoundary_frame (s : State) :
    (clockBoundary s).pending = s.pending ∧ (clockBoundary s).inReset = s.inReset
      ∧ (clockBoundary s).nodeAddr = s.nodeAddr ∧ (clockBoundary s).stopn = s.stopn
      ∧ (clockBoundary s).intake = s.intake ∧ (clockBoundary s).cls = s.cls ∧ (clockBoundary s).track = s.track
      ∧ (clockBoundary s).banks = s.banks ∧ (clockBoundary s).station = s.station ∧ (clockBoundary s).mc = s.mc
      ∧ (clockBoundary s).portU = s.portU ∧ (clockBoundary s).portD = s.portD ∧ (clockBoundary s).proving = s.proving
      ∧ (clockBoundary s).mgmt = s.mgmt ∧ (clockBoundary s).handed.detects = s.handed.detects
      ∧ (clockBoundary s).handed.requests = s.handed.requests ∧ (clockBoundary s).handed.burden = s.handed.burden
      ∧ (clockBoundary s).handed.ring = s.handed.ring ∧ (clockBoundary s).handed.encoder = s.handed.encoder
      ∧ (clockBoundary s).handed.reversal = s.handed.reversal
      ∧ (clockBoundary s).handed.trackEmpty = s.handed.trackEmpty
      ∧ (clockBoundary s).handed.occupancy = s.handed.occupancy
      ∧ (clockBoundary s).handed.portUMode = s.handed.portUMode
      ∧ (clockBoundary s).handed.portUStation = s.handed.portUStation
      ∧ (clockBoundary s).handed.portDStation = s.handed.portDStation
      ∧ (clockBoundary s).handed.portDExpiry = s.handed.portDExpiry
      ∧ (clockBoundary s).handed.stationModes = s.handed.stationModes := by
  and_intros <;> rfl

@[simp] theorem clockBoundary_frame_at (s : State) :
    (∀ c, (clockBoundary s).bank c = s.bank c) ∧ (∀ q, (clockBoundary s).link q = s.link q)
      ∧ (∀ q, (clockBoundary s).linked q = s.linked q) := by
  exact ⟨fun c => State.bank_congr (by simp) c,
    State.link_congr (by simp) (by simp),
    fun q => State.linked_congr (State.link_congr (by simp) (by simp) q)⟩

/-! ## A boundary at a DISABLED bank -/

@[simp] theorem boundaryDisabled_frame (i : BankIx) (s : State) :
    (boundaryDisabled i s).pending = s.pending ∧ (boundaryDisabled i s).inReset = s.inReset
      ∧ (boundaryDisabled i s).nodeAddr = s.nodeAddr ∧ (boundaryDisabled i s).stopn = s.stopn
      ∧ (boundaryDisabled i s).pos = s.pos ∧ (boundaryDisabled i s).intake = s.intake
      ∧ (boundaryDisabled i s).cls = s.cls ∧ (boundaryDisabled i s).track = s.track
      ∧ (boundaryDisabled i s).station = s.station ∧ (boundaryDisabled i s).mc = s.mc
      ∧ (boundaryDisabled i s).portU = s.portU ∧ (boundaryDisabled i s).portD = s.portD
      ∧ (boundaryDisabled i s).proving = s.proving ∧ (boundaryDisabled i s).mgmt = s.mgmt
      ∧ (boundaryDisabled i s).handed = s.handed := by
  and_intros <;> rfl

@[simp] theorem boundaryDisabled_frame_at (i : BankIx) (s : State) :
    (∀ c, (boundaryDisabled i s).bankHanded c = s.bankHanded c) ∧ (∀ q, (boundaryDisabled i s).link q = s.link q)
      ∧ (∀ q, (boundaryDisabled i s).linked q = s.linked q) := by
  exact ⟨fun c => State.bankHanded_congr (by simp) c,
    State.link_congr (by simp) (by simp),
    fun q => State.linked_congr (State.link_congr (by simp) (by simp) q)⟩

/-! ## A boundary at a bank in use -/

@[simp] theorem boundaryInUse_frame (i : BankIx) (n : BitVec 8) (s : State) :
    (boundaryInUse i n s).pending = s.pending ∧ (boundaryInUse i n s).inReset = s.inReset
      ∧ (boundaryInUse i n s).nodeAddr = s.nodeAddr ∧ (boundaryInUse i n s).stopn = s.stopn
      ∧ (boundaryInUse i n s).pos = s.pos ∧ (boundaryInUse i n s).intake = s.intake
      ∧ (boundaryInUse i n s).cls = s.cls ∧ (boundaryInUse i n s).track = s.track
      ∧ (boundaryInUse i n s).station = s.station ∧ (boundaryInUse i n s).mc = s.mc
      ∧ (boundaryInUse i n s).proving = s.proving ∧ (boundaryInUse i n s).handed.detects = s.handed.detects
      ∧ (boundaryInUse i n s).handed.requests = s.handed.requests
      ∧ (boundaryInUse i n s).handed.burden = s.handed.burden ∧ (boundaryInUse i n s).handed.ring = s.handed.ring
      ∧ (boundaryInUse i n s).handed.encoder = s.handed.encoder
      ∧ (boundaryInUse i n s).handed.reversal = s.handed.reversal
      ∧ (boundaryInUse i n s).handed.trackEmpty = s.handed.trackEmpty
      ∧ (boundaryInUse i n s).handed.occupancy = s.handed.occupancy
      ∧ (boundaryInUse i n s).handed.portUMode = s.handed.portUMode
      ∧ (boundaryInUse i n s).handed.portUStation = s.handed.portUStation
      ∧ (boundaryInUse i n s).handed.portDStation = s.handed.portDStation
      ∧ (boundaryInUse i n s).handed.portDExpiry = s.handed.portDExpiry
      ∧ (boundaryInUse i n s).handed.stationModes = s.handed.stationModes
      ∧ (boundaryInUse i n s).mgmt.line = s.mgmt.line ∧ (boundaryInUse i n s).mgmt.mask = s.mgmt.mask
      ∧ (boundaryInUse i n s).mgmt.queue = s.mgmt.queue ∧ (boundaryInUse i n s).mgmt.softReset = s.mgmt.softReset
      ∧ (boundaryInUse i n s).portU.link = s.portU.link ∧ (boundaryInUse i n s).portD.link = s.portD.link := by
  unfold boundaryInUse; dsimp only; split <;> simp

@[simp] theorem boundaryInUse_frame_at (i : BankIx) (n : BitVec 8) (s : State) :
    (∀ q, (boundaryInUse i n s).link q = s.link q) ∧ (∀ q, (boundaryInUse i n s).linked q = s.linked q) := by
  exact ⟨State.link_congr (by simp) (by simp),
    fun q => State.linked_congr (State.link_congr (by simp) (by simp) q)⟩

/-! ## A boundary taken by a bank -/

@[simp] theorem bankBoundary_frame (i : BankIx) (s : State) :
    (bankBoundary i s).pending = s.pending ∧ (bankBoundary i s).inReset = s.inReset
      ∧ (bankBoundary i s).nodeAddr = s.nodeAddr ∧ (bankBoundary i s).stopn = s.stopn ∧ (bankBoundary i s).pos = s.pos
      ∧ (bankBoundary i s).intake = s.intake ∧ (bankBoundary i s).cls = s.cls ∧ (bankBoundary i s).track = s.track
      ∧ (bankBoundary i s).station = s.station ∧ (bankBoundary i s).mc = s.mc ∧ (bankBoundary i s).proving = s.proving
      ∧ (bankBoundary i s).handed.detects = s.handed.detects ∧ (bankBoundary i s).handed.requests = s.handed.requests
      ∧ (bankBoundary i s).handed.burden = s.handed.burden ∧ (bankBoundary i s).handed.ring = s.handed.ring
      ∧ (bankBoundary i s).handed.encoder = s.handed.encoder ∧ (bankBoundary i s).handed.reversal = s.handed.reversal
      ∧ (bankBoundary i s).handed.trackEmpty = s.handed.trackEmpty
      ∧ (bankBoundary i s).handed.occupancy = s.handed.occupancy
      ∧ (bankBoundary i s).handed.portUMode = s.handed.portUMode
      ∧ (bankBoundary i s).handed.portUStation = s.handed.portUStation
      ∧ (bankBoundary i s).handed.portDStation = s.handed.portDStation
      ∧ (bankBoundary i s).handed.portDExpiry = s.handed.portDExpiry
      ∧ (bankBoundary i s).handed.stationModes = s.handed.stationModes ∧ (bankBoundary i s).mgmt.line = s.mgmt.line
      ∧ (bankBoundary i s).mgmt.mask = s.mgmt.mask ∧ (bankBoundary i s).mgmt.queue = s.mgmt.queue
      ∧ (bankBoundary i s).mgmt.softReset = s.mgmt.softReset ∧ (bankBoundary i s).portU.link = s.portU.link
      ∧ (bankBoundary i s).portD.link = s.portD.link := by
  unfold bankBoundary; split <;> [skip; (dsimp only; split)] <;> simp

@[simp] theorem bankBoundary_frame_at (i : BankIx) (s : State) :
    (∀ q, (bankBoundary i s).link q = s.link q) ∧ (∀ q, (bankBoundary i s).linked q = s.linked q) := by
  exact ⟨State.link_congr (by simp) (by simp),
    fun q => State.linked_congr (State.link_congr (by simp) (by simp) q)⟩

/-! ## All-off at one bank -/

@[simp] theorem allOffBank_frame (s : State) (i : BankIx) :
    (allOffBank s i).pending = s.pending ∧ (allOffBank s i).inReset = s.inReset
      ∧ (allOffBank s i).nodeAddr = s.nodeAddr ∧ (allOffBank s i).stopn = s.stopn ∧ (allOffBank s i).pos = s.pos
      ∧ (allOffBank s i).intake = s.intake ∧ (allOffBank s i).cls = s.cls ∧ (allOffBank s i).track = s.track
      ∧ (allOffBank s i).station = s.station ∧ (allOffBank s i).mc = s.mc ∧ (allOffBank s i).portU = s.portU
      ∧ (allOffBank s i).proving = s.proving ∧ (allOffBank s i).mgmt = s.mgmt ∧ (allOffBank s i).handed = s.handed
      ∧ (allOffBank s i).portD.link = s.portD.link := by
  unfold allOffBank; dsimp only; split <;> simp

@[simp] theorem allOffBank_frame_at (s : State) (i : BankIx) :
    (∀ c, (allOffBank s i).bankHanded c = s.bankHanded c) ∧ (∀ q, (allOffBank s i).link q = s.link q)
      ∧ (∀ q, (allOffBank s i).linked q = s.linked q) := by
  exact ⟨fun c => State.bankHanded_congr (by simp) c,
    State.link_congr (by simp) (by simp),
    fun q => State.linked_congr (State.link_congr (by simp) (by simp) q)⟩

/-! ## All-off -/

@[simp] theorem allOff_frame (s : State) :
    (allOff s).pending = s.pending ∧ (allOff s).inReset = s.inReset ∧ (allOff s).nodeAddr = s.nodeAddr
      ∧ (allOff s).stopn = s.stopn ∧ (allOff s).pos = s.pos ∧ (allOff s).intake = s.intake ∧ (allOff s).cls = s.cls
      ∧ (allOff s).track = s.track ∧ (allOff s).station = s.station ∧ (allOff s).mc = s.mc
      ∧ (allOff s).portU = s.portU ∧ (allOff s).proving = s.proving ∧ (allOff s).mgmt = s.mgmt
      ∧ (allOff s).handed = s.handed ∧ (allOff s).portD.link = s.portD.link := by
  simp [allOff, BankIx.all]

@[simp] theorem allOff_frame_at (s : State) :
    (∀ c, (allOff s).bankHanded c = s.bankHanded c) ∧ (∀ q, (allOff s).link q = s.link q)
      ∧ (∀ q, (allOff s).linked q = s.linked q) := by
  exact ⟨fun c => State.bankHanded_congr (by simp) c,
    State.link_congr (by simp) (by simp),
    fun q => State.linked_congr (State.link_congr (by simp) (by simp) q)⟩

/-! ## An emergency stop -/

@[simp] theorem takeEmergencyStop_frame (s : State) :
    (takeEmergencyStop s).pending = s.pending ∧ (takeEmergencyStop s).inReset = s.inReset
      ∧ (takeEmergencyStop s).nodeAddr = s.nodeAddr ∧ (takeEmergencyStop s).stopn = s.stopn
      ∧ (takeEmergencyStop s).pos = s.pos ∧ (takeEmergencyStop s).intake = s.intake
      ∧ (takeEmergencyStop s).cls = s.cls ∧ (takeEmergencyStop s).station = s.station
      ∧ (takeEmergencyStop s).proving = s.proving ∧ (takeEmergencyStop s).handed.detects = s.handed.detects
      ∧ (takeEmergencyStop s).handed.requests = s.handed.requests
      ∧ (takeEmergencyStop s).handed.burden = s.handed.burden ∧ (takeEmergencyStop s).handed.ring = s.handed.ring
      ∧ (takeEmergencyStop s).handed.encoder = s.handed.encoder
      ∧ (takeEmergencyStop s).handed.reversal = s.handed.reversal
      ∧ (takeEmergencyStop s).handed.trackEmpty = s.handed.trackEmpty
      ∧ (takeEmergencyStop s).handed.portUMode = s.handed.portUMode
      ∧ (takeEmergencyStop s).handed.portUStation = s.handed.portUStation
      ∧ (takeEmergencyStop s).handed.portDStation = s.handed.portDStation
      ∧ (takeEmergencyStop s).handed.portDExpiry = s.handed.portDExpiry ∧ (takeEmergencyStop s).mgmt.line = s.mgmt.line
      ∧ (takeEmergencyStop s).mgmt.mask = s.mgmt.mask ∧ (takeEmergencyStop s).mgmt.queue = s.mgmt.queue
      ∧ (takeEmergencyStop s).mgmt.softReset = s.mgmt.softReset ∧ (takeEmergencyStop s).portU.link = s.portU.link
      ∧ (takeEmergencyStop s).portD.link = s.portD.link := by
  unfold takeEmergencyStop; dsimp only; split <;> simp

@[simp] theorem takeEmergencyStop_frame_at (s : State) :
    (∀ q, (takeEmergencyStop s).link q = s.link q) ∧ (∀ q, (takeEmergencyStop s).linked q = s.linked q) := by
  exact ⟨State.link_congr (by simp) (by simp),
    fun q => State.linked_congr (State.link_congr (by simp) (by simp) q)⟩

/-! ## STOPn is read -/

@[simp] theorem readStop_frame (stop : StopLevel) (s : State) :
    (readStop stop s).pending = s.pending ∧ (readStop stop s).inReset = s.inReset
      ∧ (readStop stop s).nodeAddr = s.nodeAddr ∧ (readStop stop s).pos = s.pos ∧ (readStop stop s).intake = s.intake
      ∧ (readStop stop s).cls = s.cls ∧ (readStop stop s).station = s.station ∧ (readStop stop s).proving = s.proving
      ∧ (readStop stop s).handed.detects = s.handed.detects ∧ (readStop stop s).handed.requests = s.handed.requests
      ∧ (readStop stop s).handed.burden = s.handed.burden ∧ (readStop stop s).handed.ring = s.handed.ring
      ∧ (readStop stop s).handed.encoder = s.handed.encoder ∧ (readStop stop s).handed.reversal = s.handed.reversal
      ∧ (readStop stop s).handed.trackEmpty = s.handed.trackEmpty
      ∧ (readStop stop s).handed.portUMode = s.handed.portUMode
      ∧ (readStop stop s).handed.portUStation = s.handed.portUStation
      ∧ (readStop stop s).handed.portDStation = s.handed.portDStation
      ∧ (readStop stop s).handed.portDExpiry = s.handed.portDExpiry ∧ (readStop stop s).mgmt.line = s.mgmt.line
      ∧ (readStop stop s).mgmt.mask = s.mgmt.mask ∧ (readStop stop s).mgmt.queue = s.mgmt.queue
      ∧ (readStop stop s).mgmt.softReset = s.mgmt.softReset ∧ (readStop stop s).portU.link = s.portU.link
      ∧ (readStop stop s).portD.link = s.portD.link := by
  unfold readStop; dsimp only; split <;> simp

@[simp] theorem readStop_frame_at (stop : StopLevel) (s : State) :
    (∀ q, (readStop stop s).link q = s.link q) ∧ (∀ q, (readStop stop s).linked q = s.linked q) := by
  exact ⟨State.link_congr (by simp) (by simp),
    fun q => State.linked_congr (State.link_congr (by simp) (by simp) q)⟩

/-! ## A drain is abandoned -/

@[simp] theorem abandonDrain_frame (s : State) :
    (abandonDrain s).pending = s.pending ∧ (abandonDrain s).inReset = s.inReset
      ∧ (abandonDrain s).nodeAddr = s.nodeAddr ∧ (abandonDrain s).stopn = s.stopn ∧ (abandonDrain s).pos = s.pos
      ∧ (abandonDrain s).intake = s.intake ∧ (abandonDrain s).cls = s.cls ∧ (abandonDrain s).station = s.station
      ∧ (abandonDrain s).portU = s.portU ∧ (abandonDrain s).portD = s.portD ∧ (abandonDrain s).proving = s.proving
      ∧ (abandonDrain s).mgmt = s.mgmt ∧ (abandonDrain s).handed.detects = s.handed.detects
      ∧ (abandonDrain s).handed.requests = s.handed.requests ∧ (abandonDrain s).handed.burden = s.handed.burden
      ∧ (abandonDrain s).handed.ring = s.handed.ring ∧ (abandonDrain s).handed.encoder = s.handed.encoder
      ∧ (abandonDrain s).handed.reversal = s.handed.reversal
      ∧ (abandonDrain s).handed.trackEmpty = s.handed.trackEmpty
      ∧ (abandonDrain s).handed.portUMode = s.handed.portUMode
      ∧ (abandonDrain s).handed.portUStation = s.handed.portUStation
      ∧ (abandonDrain s).handed.portDStation = s.handed.portDStation
      ∧ (abandonDrain s).handed.portDExpiry = s.handed.portDExpiry := by
  simp [abandonDrain]

@[simp] theorem abandonDrain_frame_at (s : State) :
    (∀ q, (abandonDrain s).link q = s.link q) ∧ (∀ q, (abandonDrain s).linked q = s.linked q) := by
  exact ⟨State.link_congr (by simp) (by simp),
    fun q => State.linked_congr (State.link_congr (by simp) (by simp) q)⟩

/-! ## A test ends -/

@[simp] theorem endTest_frame (s : State) :
    (endTest s).pending = s.pending ∧ (endTest s).inReset = s.inReset ∧ (endTest s).nodeAddr = s.nodeAddr
      ∧ (endTest s).stopn = s.stopn ∧ (endTest s).pos = s.pos ∧ (endTest s).intake = s.intake
      ∧ (endTest s).cls = s.cls ∧ (endTest s).track = s.track ∧ (endTest s).banks = s.banks
      ∧ (endTest s).station = s.station ∧ (endTest s).portU = s.portU ∧ (endTest s).portD = s.portD
      ∧ (endTest s).proving = s.proving ∧ (endTest s).mgmt = s.mgmt
      ∧ (endTest s).handed.detects = s.handed.detects ∧ (endTest s).handed.requests = s.handed.requests
      ∧ (endTest s).handed.burden = s.handed.burden ∧ (endTest s).handed.ring = s.handed.ring
      ∧ (endTest s).handed.encoder = s.handed.encoder ∧ (endTest s).handed.reversal = s.handed.reversal
      ∧ (endTest s).handed.trackEmpty = s.handed.trackEmpty ∧ (endTest s).handed.occupancy = s.handed.occupancy
      ∧ (endTest s).handed.portUMode = s.handed.portUMode
      ∧ (endTest s).handed.portUStation = s.handed.portUStation
      ∧ (endTest s).handed.portDStation = s.handed.portDStation
      ∧ (endTest s).handed.portDExpiry = s.handed.portDExpiry ∧ (endTest s).mc.cause = s.mc.cause := by
  unfold endTest; split <;> simp

@[simp] theorem endTest_frame_at (s : State) :
    (∀ c, (endTest s).bank c = s.bank c) ∧ (∀ q, (endTest s).link q = s.link q)
      ∧ (∀ q, (endTest s).linked q = s.linked q) := by
  exact ⟨fun c => State.bank_congr (by simp) c, State.link_congr (by simp) (by simp),
    fun q => State.linked_congr (State.link_congr (by simp) (by simp) q)⟩

/-! ## A fault is cleared -/

@[simp] theorem faultCleared_frame (s : State) :
    (faultCleared s).pending = s.pending ∧ (faultCleared s).inReset = s.inReset
      ∧ (faultCleared s).nodeAddr = s.nodeAddr ∧ (faultCleared s).stopn = s.stopn ∧ (faultCleared s).intake = s.intake
      ∧ (faultCleared s).cls = s.cls ∧ (faultCleared s).track = s.track ∧ (faultCleared s).banks = s.banks
      ∧ (faultCleared s).station = s.station ∧ (faultCleared s).portU = s.portU ∧ (faultCleared s).portD = s.portD
      ∧ (faultCleared s).proving = s.proving ∧ (faultCleared s).mgmt = s.mgmt
      ∧ (faultCleared s).handed.detects = s.handed.detects ∧ (faultCleared s).handed.requests = s.handed.requests
      ∧ (faultCleared s).handed.burden = s.handed.burden ∧ (faultCleared s).handed.ring = s.handed.ring
      ∧ (faultCleared s).handed.encoder = s.handed.encoder ∧ (faultCleared s).handed.reversal = s.handed.reversal
      ∧ (faultCleared s).handed.trackEmpty = s.handed.trackEmpty
      ∧ (faultCleared s).handed.occupancy = s.handed.occupancy
      ∧ (faultCleared s).handed.portUMode = s.handed.portUMode
      ∧ (faultCleared s).handed.portUStation = s.handed.portUStation
      ∧ (faultCleared s).handed.portDStation = s.handed.portDStation
      ∧ (faultCleared s).handed.portDExpiry = s.handed.portDExpiry := by
  simp [faultCleared]

@[simp] theorem faultCleared_frame_at (s : State) :
    (∀ c, (faultCleared s).bank c = s.bank c) ∧ (∀ q, (faultCleared s).link q = s.link q)
      ∧ (∀ q, (faultCleared s).linked q = s.linked q) := by
  exact ⟨fun c => State.bank_congr (by simp) c,
    State.link_congr (by simp) (by simp),
    fun q => State.linked_congr (State.link_congr (by simp) (by simp) q)⟩

/-! ## START -/

@[simp] theorem doStart_frame (s : State) :
    ((doStart s).1).pending = s.pending ∧ ((doStart s).1).inReset = s.inReset ∧ ((doStart s).1).nodeAddr = s.nodeAddr
      ∧ ((doStart s).1).stopn = s.stopn ∧ ((doStart s).1).pos = s.pos ∧ ((doStart s).1).intake = s.intake
      ∧ ((doStart s).1).cls = s.cls ∧ ((doStart s).1).track = s.track ∧ ((doStart s).1).banks = s.banks
      ∧ ((doStart s).1).station = s.station ∧ ((doStart s).1).portU = s.portU ∧ ((doStart s).1).portD = s.portD
      ∧ ((doStart s).1).proving = s.proving ∧ ((doStart s).1).mgmt = s.mgmt
      ∧ ((doStart s).1).handed.detects = s.handed.detects ∧ ((doStart s).1).handed.requests = s.handed.requests
      ∧ ((doStart s).1).handed.burden = s.handed.burden ∧ ((doStart s).1).handed.ring = s.handed.ring
      ∧ ((doStart s).1).handed.encoder = s.handed.encoder ∧ ((doStart s).1).handed.reversal = s.handed.reversal
      ∧ ((doStart s).1).handed.trackEmpty = s.handed.trackEmpty
      ∧ ((doStart s).1).handed.occupancy = s.handed.occupancy ∧ ((doStart s).1).handed.portUMode = s.handed.portUMode
      ∧ ((doStart s).1).handed.portUStation = s.handed.portUStation
      ∧ ((doStart s).1).handed.portDStation = s.handed.portDStation
      ∧ ((doStart s).1).handed.portDExpiry = s.handed.portDExpiry := by
  unfold doStart; split <;> [skip; split] <;> simp

@[simp] theorem doStart_frame_at (s : State) :
    (∀ c, ((doStart s).1).bank c = s.bank c) ∧ (∀ q, ((doStart s).1).link q = s.link q)
      ∧ (∀ q, ((doStart s).1).linked q = s.linked q) := by
  exact ⟨fun c => State.bank_congr (by simp) c,
    State.link_congr (by simp) (by simp),
    fun q => State.linked_congr (State.link_congr (by simp) (by simp) q)⟩

/-! ## STOP -/

@[simp] theorem doStop_frame (s : State) :
    ((doStop s).1).pending = s.pending ∧ ((doStop s).1).inReset = s.inReset ∧ ((doStop s).1).nodeAddr = s.nodeAddr
      ∧ ((doStop s).1).stopn = s.stopn ∧ ((doStop s).1).pos = s.pos ∧ ((doStop s).1).intake = s.intake
      ∧ ((doStop s).1).cls = s.cls ∧ ((doStop s).1).station = s.station ∧ ((doStop s).1).portD = s.portD
      ∧ ((doStop s).1).proving = s.proving ∧ ((doStop s).1).handed.detects = s.handed.detects
      ∧ ((doStop s).1).handed.requests = s.handed.requests ∧ ((doStop s).1).handed.burden = s.handed.burden
      ∧ ((doStop s).1).handed.ring = s.handed.ring ∧ ((doStop s).1).handed.encoder = s.handed.encoder
      ∧ ((doStop s).1).handed.reversal = s.handed.reversal ∧ ((doStop s).1).handed.trackEmpty = s.handed.trackEmpty
      ∧ ((doStop s).1).handed.portUMode = s.handed.portUMode
      ∧ ((doStop s).1).handed.portUStation = s.handed.portUStation
      ∧ ((doStop s).1).handed.portDStation = s.handed.portDStation
      ∧ ((doStop s).1).handed.portDExpiry = s.handed.portDExpiry
      ∧ ((doStop s).1).mgmt.line = s.mgmt.line ∧ ((doStop s).1).mgmt.mask = s.mgmt.mask
      ∧ ((doStop s).1).mgmt.queue = s.mgmt.queue ∧ ((doStop s).1).mgmt.softReset = s.mgmt.softReset
      ∧ ((doStop s).1).portU.link = s.portU.link := by
  unfold doStop; split <;> [(dsimp only; split); skip; skip] <;> simp

@[simp] theorem doStop_frame_at (s : State) :
    (∀ q, ((doStop s).1).link q = s.link q) ∧ (∀ q, ((doStop s).1).linked q = s.linked q) := by
  exact ⟨State.link_congr (by simp) (by simp),
    fun q => State.linked_congr (State.link_congr (by simp) (by simp) q)⟩

/-! ## CLEAR FAULT -/

@[simp] theorem doClearFault_frame (stop : StopLevel) (s : State) :
    ((doClearFault stop s).1).pending = s.pending ∧ ((doClearFault stop s).1).inReset = s.inReset
      ∧ ((doClearFault stop s).1).nodeAddr = s.nodeAddr ∧ ((doClearFault stop s).1).stopn = s.stopn
      ∧ ((doClearFault stop s).1).intake = s.intake ∧ ((doClearFault stop s).1).cls = s.cls
      ∧ ((doClearFault stop s).1).track = s.track ∧ ((doClearFault stop s).1).banks = s.banks
      ∧ ((doClearFault stop s).1).station = s.station ∧ ((doClearFault stop s).1).portU = s.portU
      ∧ ((doClearFault stop s).1).portD = s.portD ∧ ((doClearFault stop s).1).proving = s.proving
      ∧ ((doClearFault stop s).1).mgmt = s.mgmt ∧ ((doClearFault stop s).1).handed.detects = s.handed.detects
      ∧ ((doClearFault stop s).1).handed.requests = s.handed.requests
      ∧ ((doClearFault stop s).1).handed.burden = s.handed.burden
      ∧ ((doClearFault stop s).1).handed.ring = s.handed.ring
      ∧ ((doClearFault stop s).1).handed.encoder = s.handed.encoder
      ∧ ((doClearFault stop s).1).handed.reversal = s.handed.reversal
      ∧ ((doClearFault stop s).1).handed.trackEmpty = s.handed.trackEmpty
      ∧ ((doClearFault stop s).1).handed.occupancy = s.handed.occupancy
      ∧ ((doClearFault stop s).1).handed.portUMode = s.handed.portUMode
      ∧ ((doClearFault stop s).1).handed.portUStation = s.handed.portUStation
      ∧ ((doClearFault stop s).1).handed.portDStation = s.handed.portDStation
      ∧ ((doClearFault stop s).1).handed.portDExpiry = s.handed.portDExpiry := by
  unfold doClearFault; split <;> [skip; split] <;> simp

@[simp] theorem doClearFault_frame_at (stop : StopLevel) (s : State) :
    (∀ c, ((doClearFault stop s).1).bank c = s.bank c) ∧ (∀ q, ((doClearFault stop s).1).link q = s.link q)
      ∧ (∀ q, ((doClearFault stop s).1).linked q = s.linked q) := by
  exact ⟨fun c => State.bank_congr (by simp) c,
    State.link_congr (by simp) (by simp),
    fun q => State.linked_congr (State.link_congr (by simp) (by simp) q)⟩

/-! ## A proving run starts -/

@[simp] theorem startRun_frame (p : PortId) (role : ProvingRole) (n : Nat) (s : State) :
    (startRun p role n s).pending = s.pending ∧ (startRun p role n s).inReset = s.inReset
      ∧ (startRun p role n s).nodeAddr = s.nodeAddr ∧ (startRun p role n s).stopn = s.stopn
      ∧ (startRun p role n s).pos = s.pos ∧ (startRun p role n s).intake = s.intake
      ∧ (startRun p role n s).cls = s.cls ∧ (startRun p role n s).track = s.track
      ∧ (startRun p role n s).banks = s.banks ∧ (startRun p role n s).station = s.station
      ∧ (startRun p role n s).mc = s.mc ∧ (startRun p role n s).handed.detects = s.handed.detects
      ∧ (startRun p role n s).handed.requests = s.handed.requests
      ∧ (startRun p role n s).handed.burden = s.handed.burden ∧ (startRun p role n s).handed.ring = s.handed.ring
      ∧ (startRun p role n s).handed.encoder = s.handed.encoder
      ∧ (startRun p role n s).handed.reversal = s.handed.reversal
      ∧ (startRun p role n s).handed.trackEmpty = s.handed.trackEmpty
      ∧ (startRun p role n s).handed.occupancy = s.handed.occupancy
      ∧ (startRun p role n s).handed.portDExpiry = s.handed.portDExpiry
      ∧ (startRun p role n s).handed.stationModes = s.handed.stationModes
      ∧ (startRun p role n s).handed.banks = s.handed.banks ∧ (startRun p role n s).mgmt.line = s.mgmt.line
      ∧ (startRun p role n s).mgmt.mask = s.mgmt.mask ∧ (startRun p role n s).mgmt.queue = s.mgmt.queue
      ∧ (startRun p role n s).portD.relay = s.portD.relay := by
  unfold startRun; dsimp only; split <;> simp

@[simp] theorem startRun_frame_at (p : PortId) (role : ProvingRole) (n : Nat) (s : State) :
    (∀ c, (startRun p role n s).bank c = s.bank c) ∧ (∀ c, (startRun p role n s).bankHanded c = s.bankHanded c) := by
  exact ⟨fun c => State.bank_congr (by simp) c,
    fun c => State.bankHanded_congr (by simp) c⟩

/-! ## PROVE -/

@[simp] theorem doProve_frame (port role n : Nat) (s : State) :
    ((doProve port role n s).1).pending = s.pending ∧ ((doProve port role n s).1).inReset = s.inReset
      ∧ ((doProve port role n s).1).nodeAddr = s.nodeAddr ∧ ((doProve port role n s).1).stopn = s.stopn
      ∧ ((doProve port role n s).1).pos = s.pos ∧ ((doProve port role n s).1).intake = s.intake
      ∧ ((doProve port role n s).1).cls = s.cls ∧ ((doProve port role n s).1).track = s.track
      ∧ ((doProve port role n s).1).banks = s.banks ∧ ((doProve port role n s).1).station = s.station
      ∧ ((doProve port role n s).1).handed.detects = s.handed.detects
      ∧ ((doProve port role n s).1).handed.requests = s.handed.requests
      ∧ ((doProve port role n s).1).handed.burden = s.handed.burden
      ∧ ((doProve port role n s).1).handed.ring = s.handed.ring
      ∧ ((doProve port role n s).1).handed.encoder = s.handed.encoder
      ∧ ((doProve port role n s).1).handed.reversal = s.handed.reversal
      ∧ ((doProve port role n s).1).handed.trackEmpty = s.handed.trackEmpty
      ∧ ((doProve port role n s).1).handed.occupancy = s.handed.occupancy
      ∧ ((doProve port role n s).1).handed.portDExpiry = s.handed.portDExpiry
      ∧ ((doProve port role n s).1).mgmt.line = s.mgmt.line ∧ ((doProve port role n s).1).mgmt.mask = s.mgmt.mask
      ∧ ((doProve port role n s).1).mgmt.queue = s.mgmt.queue
      ∧ ((doProve port role n s).1).portD.relay = s.portD.relay := by
  unfold doProve; split <;> [skip; (split <;> [(split <;> [skip; split]); skip])] <;> simp

@[simp] theorem doProve_frame_at (port role n : Nat) (s : State) : (∀ c, ((doProve port role n s).1).bank c = s.bank c) := by
  exact fun c => State.bank_congr (by simp) c

/-! ## A record is refused -/

@[simp] theorem refuse_frame (why : Refused) (s : State) :
    (refuse why s).pending = s.pending ∧ (refuse why s).inReset = s.inReset ∧ (refuse why s).nodeAddr = s.nodeAddr
      ∧ (refuse why s).stopn = s.stopn ∧ (refuse why s).pos = s.pos ∧ (refuse why s).cls = s.cls
      ∧ (refuse why s).track = s.track ∧ (refuse why s).banks = s.banks ∧ (refuse why s).station = s.station
      ∧ (refuse why s).mc = s.mc ∧ (refuse why s).portD = s.portD ∧ (refuse why s).proving = s.proving
      ∧ (refuse why s).handed = s.handed ∧ (refuse why s).mgmt.line = s.mgmt.line
      ∧ (refuse why s).mgmt.mask = s.mgmt.mask ∧ (refuse why s).mgmt.queue = s.mgmt.queue
      ∧ (refuse why s).mgmt.softReset = s.mgmt.softReset ∧ (refuse why s).portU.link = s.portU.link
      ∧ (refuse why s).intake.held = s.intake.held ∧ (refuse why s).intake.nextId = s.intake.nextId := by
  simp [refuse]

@[simp] theorem refuse_frame_at (why : Refused) (s : State) :
    (∀ c, (refuse why s).bank c = s.bank c) ∧ (∀ c, (refuse why s).bankHanded c = s.bankHanded c)
      ∧ (∀ q, (refuse why s).link q = s.link q) ∧ (∀ q, (refuse why s).linked q = s.linked q) := by
  exact ⟨fun c => State.bank_congr (by simp) c,
    fun c => State.bankHanded_congr (by simp) c,
    State.link_congr (by simp) (by simp),
    fun q => State.linked_congr (State.link_congr (by simp) (by simp) q)⟩

/-! ## A record is classified -/

@[simp] theorem classify_frame (r : Detection) (w : Winner) (s : State) :
    (classify r w s).pending = s.pending ∧ (classify r w s).inReset = s.inReset
      ∧ (classify r w s).nodeAddr = s.nodeAddr ∧ (classify r w s).stopn = s.stopn ∧ (classify r w s).pos = s.pos
      ∧ (classify r w s).intake = s.intake ∧ (classify r w s).track = s.track ∧ (classify r w s).banks = s.banks
      ∧ (classify r w s).station = s.station ∧ (classify r w s).mc = s.mc ∧ (classify r w s).portU = s.portU
      ∧ (classify r w s).portD = s.portD ∧ (classify r w s).proving = s.proving ∧ (classify r w s).mgmt = s.mgmt
      ∧ (classify r w s).handed.detects = s.handed.detects ∧ (classify r w s).handed.requests = s.handed.requests
      ∧ (classify r w s).handed.ring = s.handed.ring ∧ (classify r w s).handed.encoder = s.handed.encoder
      ∧ (classify r w s).handed.reversal = s.handed.reversal
      ∧ (classify r w s).handed.trackEmpty = s.handed.trackEmpty
      ∧ (classify r w s).handed.occupancy = s.handed.occupancy
      ∧ (classify r w s).handed.portUMode = s.handed.portUMode
      ∧ (classify r w s).handed.portUStation = s.handed.portUStation
      ∧ (classify r w s).handed.portDStation = s.handed.portDStation
      ∧ (classify r w s).handed.portDExpiry = s.handed.portDExpiry
      ∧ (classify r w s).handed.stationModes = s.handed.stationModes ∧ (classify r w s).handed.banks = s.handed.banks
      ∧ (classify r w s).cls.sets = s.cls.sets ∧ (classify r w s).cls.active = s.cls.active := by
  and_intros <;> rfl

@[simp] theorem classify_frame_at (r : Detection) (w : Winner) (s : State) :
    (∀ c, (classify r w s).bank c = s.bank c) ∧ (∀ c, (classify r w s).bankHanded c = s.bankHanded c)
      ∧ (∀ q, (classify r w s).link q = s.link q) ∧ (∀ q, (classify r w s).linked q = s.linked q) := by
  exact ⟨fun c => State.bank_congr (by simp) c,
    fun c => State.bankHanded_congr (by simp) c,
    State.link_congr (by simp) (by simp),
    fun q => State.linked_congr (State.link_congr (by simp) (by simp) q)⟩

/-! ## The planning verdicts are settled -/

@[simp] theorem settleBanks_frame (id : BitVec 16) (priority : Nat) (plans : BankIx → Plan) (s : State) :
    (settleBanks id priority plans s).pending = s.pending ∧ (settleBanks id priority plans s).inReset = s.inReset
      ∧ (settleBanks id priority plans s).nodeAddr = s.nodeAddr ∧ (settleBanks id priority plans s).stopn = s.stopn
      ∧ (settleBanks id priority plans s).pos = s.pos ∧ (settleBanks id priority plans s).intake = s.intake
      ∧ (settleBanks id priority plans s).cls = s.cls ∧ (settleBanks id priority plans s).track = s.track
      ∧ (settleBanks id priority plans s).station = s.station ∧ (settleBanks id priority plans s).mc = s.mc
      ∧ (settleBanks id priority plans s).portU = s.portU ∧ (settleBanks id priority plans s).portD = s.portD
      ∧ (settleBanks id priority plans s).proving = s.proving ∧ (settleBanks id priority plans s).mgmt = s.mgmt
      ∧ (settleBanks id priority plans s).handed = s.handed := by
  and_intros <;> rfl

@[simp] theorem settleBanks_frame_at (id : BitVec 16) (priority : Nat) (plans : BankIx → Plan) (s : State) :
    (∀ c, (settleBanks id priority plans s).bankHanded c = s.bankHanded c)
      ∧ (∀ q, (settleBanks id priority plans s).link q = s.link q)
      ∧ (∀ q, (settleBanks id priority plans s).linked q = s.linked q) := by
  exact ⟨fun c => State.bankHanded_congr (by simp) c,
    State.link_congr (by simp) (by simp),
    fun q => State.linked_congr (State.link_congr (by simp) (by simp) q)⟩

theorem settleBanks_bank (id : BitVec 16) (priority : Nat) (plans : BankIx → Plan) (s : State) (b : BankIx) :
    (settleBanks id priority plans s).bank b = settleBank id priority (plans b) (s.bank b) := by
  simp [settleBanks, State.bank]

/-! ## A record enters -/

@[simp] theorem enterItem_frame (r : Detection) (w : Winner) (plans : BankIx → Plan) (s : State) :
    (enterItem r w plans s).pending = s.pending ∧ (enterItem r w plans s).inReset = s.inReset
      ∧ (enterItem r w plans s).nodeAddr = s.nodeAddr ∧ (enterItem r w plans s).stopn = s.stopn
      ∧ (enterItem r w plans s).pos = s.pos ∧ (enterItem r w plans s).cls = s.cls
      ∧ (enterItem r w plans s).station = s.station ∧ (enterItem r w plans s).mc = s.mc
      ∧ (enterItem r w plans s).portD = s.portD ∧ (enterItem r w plans s).proving = s.proving
      ∧ (enterItem r w plans s).handed.detects = s.handed.detects
      ∧ (enterItem r w plans s).handed.requests = s.handed.requests
      ∧ (enterItem r w plans s).handed.burden = s.handed.burden ∧ (enterItem r w plans s).handed.ring = s.handed.ring
      ∧ (enterItem r w plans s).handed.encoder = s.handed.encoder
      ∧ (enterItem r w plans s).handed.reversal = s.handed.reversal
      ∧ (enterItem r w plans s).handed.trackEmpty = s.handed.trackEmpty
      ∧ (enterItem r w plans s).handed.portUMode = s.handed.portUMode
      ∧ (enterItem r w plans s).handed.portUStation = s.handed.portUStation
      ∧ (enterItem r w plans s).handed.portDStation = s.handed.portDStation
      ∧ (enterItem r w plans s).handed.portDExpiry = s.handed.portDExpiry
      ∧ (enterItem r w plans s).handed.stationModes = s.handed.stationModes
      ∧ (enterItem r w plans s).handed.banks = s.handed.banks ∧ (enterItem r w plans s).mgmt.line = s.mgmt.line
      ∧ (enterItem r w plans s).mgmt.mask = s.mgmt.mask ∧ (enterItem r w plans s).mgmt.queue = s.mgmt.queue
      ∧ (enterItem r w plans s).mgmt.softReset = s.mgmt.softReset ∧ (enterItem r w plans s).portU.link = s.portU.link
      ∧ (enterItem r w plans s).intake.held = s.intake.held := by
  simp [enterItem]

@[simp] theorem enterItem_frame_at (r : Detection) (w : Winner) (plans : BankIx → Plan) (s : State) :
    (∀ c, (enterItem r w plans s).bankHanded c = s.bankHanded c) ∧ (∀ q, (enterItem r w plans s).link q = s.link q)
      ∧ (∀ q, (enterItem r w plans s).linked q = s.linked q) := by
  exact ⟨fun c => State.bankHanded_congr (by simp) c,
    State.link_congr (by simp) (by simp),
    fun q => State.linked_congr (State.link_congr (by simp) (by simp) q)⟩

/-! ## A record passes -/

@[simp] theorem passRecord_frame (w : Winner) (plans : BankIx → Plan) (s : State) :
    (passRecord w plans s).pending = s.pending ∧ (passRecord w plans s).inReset = s.inReset
      ∧ (passRecord w plans s).nodeAddr = s.nodeAddr ∧ (passRecord w plans s).stopn = s.stopn
      ∧ (passRecord w plans s).pos = s.pos ∧ (passRecord w plans s).cls = s.cls
      ∧ (passRecord w plans s).track = s.track ∧ (passRecord w plans s).station = s.station
      ∧ (passRecord w plans s).mc = s.mc ∧ (passRecord w plans s).portD = s.portD
      ∧ (passRecord w plans s).proving = s.proving ∧ (passRecord w plans s).handed = s.handed
      ∧ (passRecord w plans s).mgmt.line = s.mgmt.line ∧ (passRecord w plans s).mgmt.mask = s.mgmt.mask
      ∧ (passRecord w plans s).mgmt.queue = s.mgmt.queue ∧ (passRecord w plans s).mgmt.softReset = s.mgmt.softReset
      ∧ (passRecord w plans s).portU.link = s.portU.link ∧ (passRecord w plans s).intake.held = s.intake.held
      ∧ (passRecord w plans s).intake.nextId = s.intake.nextId := by
  simp [passRecord]

@[simp] theorem passRecord_frame_at (w : Winner) (plans : BankIx → Plan) (s : State) :
    (∀ c, (passRecord w plans s).bankHanded c = s.bankHanded c) ∧ (∀ q, (passRecord w plans s).link q = s.link q)
      ∧ (∀ q, (passRecord w plans s).linked q = s.linked q) := by
  exact ⟨fun c => State.bankHanded_congr (by simp) c,
    State.link_congr (by simp) (by simp),
    fun q => State.linked_congr (State.link_congr (by simp) (by simp) q)⟩

/-! ## The ninth step -/

@[simp] theorem settleRecord_frame (r : Detection) (w : Winner) (plans : BankIx → Plan) (s : State) :
    (settleRecord r w plans s).pending = s.pending ∧ (settleRecord r w plans s).inReset = s.inReset
      ∧ (settleRecord r w plans s).nodeAddr = s.nodeAddr ∧ (settleRecord r w plans s).stopn = s.stopn
      ∧ (settleRecord r w plans s).pos = s.pos ∧ (settleRecord r w plans s).cls = s.cls
      ∧ (settleRecord r w plans s).station = s.station ∧ (settleRecord r w plans s).mc = s.mc
      ∧ (settleRecord r w plans s).portD = s.portD ∧ (settleRecord r w plans s).proving = s.proving
      ∧ (settleRecord r w plans s).handed.detects = s.handed.detects
      ∧ (settleRecord r w plans s).handed.requests = s.handed.requests
      ∧ (settleRecord r w plans s).handed.burden = s.handed.burden
      ∧ (settleRecord r w plans s).handed.ring = s.handed.ring
      ∧ (settleRecord r w plans s).handed.encoder = s.handed.encoder
      ∧ (settleRecord r w plans s).handed.reversal = s.handed.reversal
      ∧ (settleRecord r w plans s).handed.trackEmpty = s.handed.trackEmpty
      ∧ (settleRecord r w plans s).handed.portUMode = s.handed.portUMode
      ∧ (settleRecord r w plans s).handed.portUStation = s.handed.portUStation
      ∧ (settleRecord r w plans s).handed.portDStation = s.handed.portDStation
      ∧ (settleRecord r w plans s).handed.portDExpiry = s.handed.portDExpiry
      ∧ (settleRecord r w plans s).handed.stationModes = s.handed.stationModes
      ∧ (settleRecord r w plans s).handed.banks = s.handed.banks ∧ (settleRecord r w plans s).mgmt.line = s.mgmt.line
      ∧ (settleRecord r w plans s).mgmt.mask = s.mgmt.mask ∧ (settleRecord r w plans s).mgmt.queue = s.mgmt.queue
      ∧ (settleRecord r w plans s).mgmt.softReset = s.mgmt.softReset
      ∧ (settleRecord r w plans s).portU.link = s.portU.link ∧ (settleRecord r w plans s).intake.held = s.intake.held := by
  unfold settleRecord; split <;> [split; skip] <;> simp

@[simp] theorem settleRecord_frame_at (r : Detection) (w : Winner) (plans : BankIx → Plan) (s : State) :
    (∀ c, (settleRecord r w plans s).bankHanded c = s.bankHanded c)
      ∧ (∀ q, (settleRecord r w plans s).link q = s.link q) ∧ (∀ q, (settleRecord r w plans s).linked q = s.linked q) := by
  exact ⟨fun c => State.bankHanded_congr (by simp) c,
    State.link_congr (by simp) (by simp),
    fun q => State.linked_congr (State.link_congr (by simp) (by simp) q)⟩

/-! ## A record is taken -/

@[simp] theorem takeRecord_frame (r : Detection) (s : State) :
    (takeRecord r s).pending = s.pending ∧ (takeRecord r s).inReset = s.inReset
      ∧ (takeRecord r s).nodeAddr = s.nodeAddr ∧ (takeRecord r s).stopn = s.stopn ∧ (takeRecord r s).pos = s.pos
      ∧ (takeRecord r s).station = s.station ∧ (takeRecord r s).mc = s.mc ∧ (takeRecord r s).portD = s.portD
      ∧ (takeRecord r s).proving = s.proving ∧ (takeRecord r s).handed.detects = s.handed.detects
      ∧ (takeRecord r s).handed.requests = s.handed.requests ∧ (takeRecord r s).handed.ring = s.handed.ring
      ∧ (takeRecord r s).handed.encoder = s.handed.encoder ∧ (takeRecord r s).handed.reversal = s.handed.reversal
      ∧ (takeRecord r s).handed.trackEmpty = s.handed.trackEmpty
      ∧ (takeRecord r s).handed.portUMode = s.handed.portUMode
      ∧ (takeRecord r s).handed.portUStation = s.handed.portUStation
      ∧ (takeRecord r s).handed.portDStation = s.handed.portDStation
      ∧ (takeRecord r s).handed.portDExpiry = s.handed.portDExpiry
      ∧ (takeRecord r s).handed.stationModes = s.handed.stationModes ∧ (takeRecord r s).handed.banks = s.handed.banks
      ∧ (takeRecord r s).mgmt.line = s.mgmt.line ∧ (takeRecord r s).mgmt.mask = s.mgmt.mask
      ∧ (takeRecord r s).mgmt.queue = s.mgmt.queue ∧ (takeRecord r s).mgmt.softReset = s.mgmt.softReset
      ∧ (takeRecord r s).portU.link = s.portU.link ∧ (takeRecord r s).intake.held = s.intake.held
      ∧ (takeRecord r s).cls.sets = s.cls.sets ∧ (takeRecord r s).cls.active = s.cls.active := by
  unfold takeRecord; dsimp only; repeat' split
  all_goals simp

@[simp] theorem takeRecord_frame_at (r : Detection) (s : State) :
    (∀ c, (takeRecord r s).bankHanded c = s.bankHanded c) ∧ (∀ q, (takeRecord r s).link q = s.link q)
      ∧ (∀ q, (takeRecord r s).linked q = s.linked q) := by
  exact ⟨fun c => State.bankHanded_congr (by simp) c,
    State.link_congr (by simp) (by simp),
    fun q => State.linked_congr (State.link_congr (by simp) (by simp) q)⟩

/-! ## A frame is relayed -/

@[simp] theorem relayFrame_frame (p : PortId) (bytes : List Byte) (s : State) :
    (relayFrame p bytes s).pending = s.pending ∧ (relayFrame p bytes s).inReset = s.inReset
      ∧ (relayFrame p bytes s).nodeAddr = s.nodeAddr ∧ (relayFrame p bytes s).stopn = s.stopn
      ∧ (relayFrame p bytes s).pos = s.pos ∧ (relayFrame p bytes s).intake = s.intake
      ∧ (relayFrame p bytes s).cls = s.cls ∧ (relayFrame p bytes s).track = s.track
      ∧ (relayFrame p bytes s).banks = s.banks ∧ (relayFrame p bytes s).station = s.station
      ∧ (relayFrame p bytes s).mc = s.mc ∧ (relayFrame p bytes s).proving = s.proving
      ∧ (relayFrame p bytes s).handed = s.handed ∧ (relayFrame p bytes s).mgmt.line = s.mgmt.line
      ∧ (relayFrame p bytes s).mgmt.mask = s.mgmt.mask ∧ (relayFrame p bytes s).mgmt.queue = s.mgmt.queue
      ∧ (relayFrame p bytes s).mgmt.softReset = s.mgmt.softReset ∧ (relayFrame p bytes s).portU.link = s.portU.link
      ∧ (relayFrame p bytes s).portD.link = s.portD.link := by
  unfold relayFrame; repeat' split
  all_goals simp

@[simp] theorem relayFrame_frame_at (p : PortId) (bytes : List Byte) (s : State) :
    (∀ c, (relayFrame p bytes s).bank c = s.bank c) ∧ (∀ c, (relayFrame p bytes s).bankHanded c = s.bankHanded c)
      ∧ (∀ q, (relayFrame p bytes s).link q = s.link q) ∧ (∀ q, (relayFrame p bytes s).linked q = s.linked q) := by
  exact ⟨fun c => State.bank_congr (by simp) c,
    fun c => State.bankHanded_congr (by simp) c,
    State.link_congr (by simp) (by simp),
    fun q => State.linked_congr (State.link_congr (by simp) (by simp) q)⟩

/-! ## A STATUS frame is routed -/

@[simp] theorem routeStatus_frame (src : NodeAddr) (payload : List Byte) (s : State) :
    (routeStatus src payload s).pending = s.pending ∧ (routeStatus src payload s).inReset = s.inReset
      ∧ (routeStatus src payload s).nodeAddr = s.nodeAddr ∧ (routeStatus src payload s).stopn = s.stopn
      ∧ (routeStatus src payload s).pos = s.pos ∧ (routeStatus src payload s).intake = s.intake
      ∧ (routeStatus src payload s).cls = s.cls ∧ (routeStatus src payload s).track = s.track
      ∧ (routeStatus src payload s).banks = s.banks ∧ (routeStatus src payload s).station = s.station
      ∧ (routeStatus src payload s).mc = s.mc ∧ (routeStatus src payload s).portU = s.portU
      ∧ (routeStatus src payload s).proving = s.proving ∧ (routeStatus src payload s).mgmt = s.mgmt
      ∧ (routeStatus src payload s).handed.detects = s.handed.detects
      ∧ (routeStatus src payload s).handed.requests = s.handed.requests
      ∧ (routeStatus src payload s).handed.burden = s.handed.burden
      ∧ (routeStatus src payload s).handed.ring = s.handed.ring
      ∧ (routeStatus src payload s).handed.encoder = s.handed.encoder
      ∧ (routeStatus src payload s).handed.reversal = s.handed.reversal
      ∧ (routeStatus src payload s).handed.trackEmpty = s.handed.trackEmpty
      ∧ (routeStatus src payload s).handed.occupancy = s.handed.occupancy
      ∧ (routeStatus src payload s).handed.portUMode = s.handed.portUMode
      ∧ (routeStatus src payload s).handed.portUStation = s.handed.portUStation
      ∧ (routeStatus src payload s).handed.portDStation = s.handed.portDStation
      ∧ (routeStatus src payload s).handed.portDExpiry = s.handed.portDExpiry
      ∧ (routeStatus src payload s).handed.stationModes = s.handed.stationModes
      ∧ (routeStatus src payload s).portD.link = s.portD.link
      ∧ (routeStatus src payload s).portD.drive = s.portD.drive
      ∧ (routeStatus src payload s).portD.relay = s.portD.relay ∧ (routeStatus src payload s).portD.tx = s.portD.tx
      ∧ (routeStatus src payload s).portD.fire = s.portD.fire := by
  unfold routeStatus; split <;> (and_intros <;> rfl)

@[simp] theorem routeStatus_frame_at (src : NodeAddr) (payload : List Byte) (s : State) :
    (∀ c, (routeStatus src payload s).bank c = s.bank c) ∧ (∀ q, (routeStatus src payload s).link q = s.link q)
      ∧ (∀ q, (routeStatus src payload s).linked q = s.linked q) := by
  exact ⟨fun c => State.bank_congr (by simp) c,
    State.link_congr (by simp) (by simp),
    fun q => State.linked_congr (State.link_congr (by simp) (by simp) q)⟩

/-! ## A frame is counted -/

@[simp] theorem countBad_frame (p : PortId) (s : State) :
    (countBad p s).pending = s.pending ∧ (countBad p s).inReset = s.inReset ∧ (countBad p s).nodeAddr = s.nodeAddr
      ∧ (countBad p s).stopn = s.stopn ∧ (countBad p s).pos = s.pos ∧ (countBad p s).intake = s.intake
      ∧ (countBad p s).cls = s.cls ∧ (countBad p s).track = s.track ∧ (countBad p s).banks = s.banks
      ∧ (countBad p s).station = s.station ∧ (countBad p s).mc = s.mc ∧ (countBad p s).proving = s.proving
      ∧ (countBad p s).mgmt = s.mgmt ∧ (countBad p s).handed = s.handed := by
  simp [countBad]

@[simp] theorem countBad_frame_at (p : PortId) (s : State) :
    (∀ c, (countBad p s).bank c = s.bank c) ∧ (∀ c, (countBad p s).bankHanded c = s.bankHanded c) := by
  exact ⟨fun c => State.bank_congr (by simp) c,
    fun c => State.bankHanded_congr (by simp) c⟩

/-! ## A frame is counted -/

@[simp] theorem countMisdirected_frame (p : PortId) (s : State) :
    (countMisdirected p s).pending = s.pending ∧ (countMisdirected p s).inReset = s.inReset
      ∧ (countMisdirected p s).nodeAddr = s.nodeAddr ∧ (countMisdirected p s).stopn = s.stopn
      ∧ (countMisdirected p s).pos = s.pos ∧ (countMisdirected p s).intake = s.intake
      ∧ (countMisdirected p s).cls = s.cls ∧ (countMisdirected p s).track = s.track
      ∧ (countMisdirected p s).banks = s.banks ∧ (countMisdirected p s).station = s.station
      ∧ (countMisdirected p s).mc = s.mc ∧ (countMisdirected p s).proving = s.proving
      ∧ (countMisdirected p s).mgmt = s.mgmt ∧ (countMisdirected p s).handed = s.handed := by
  simp [countMisdirected]

@[simp] theorem countMisdirected_frame_at (p : PortId) (s : State) :
    (∀ c, (countMisdirected p s).bank c = s.bank c) ∧ (∀ c, (countMisdirected p s).bankHanded c = s.bankHanded c) := by
  exact ⟨fun c => State.bank_congr (by simp) c,
    fun c => State.bankHanded_congr (by simp) c⟩

/-! ## A frame is handed on -/

@[simp] theorem handOn_frame (p : PortId) (f : RxFrame) (s : State) :
    (handOn p f s).pending = s.pending ∧ (handOn p f s).inReset = s.inReset ∧ (handOn p f s).nodeAddr = s.nodeAddr
      ∧ (handOn p f s).stopn = s.stopn ∧ (handOn p f s).pos = s.pos ∧ (handOn p f s).intake = s.intake
      ∧ (handOn p f s).cls = s.cls ∧ (handOn p f s).track = s.track ∧ (handOn p f s).banks = s.banks
      ∧ (handOn p f s).station = s.station ∧ (handOn p f s).mc = s.mc ∧ (handOn p f s).proving = s.proving
      ∧ (handOn p f s).mgmt = s.mgmt ∧ (handOn p f s).handed.burden = s.handed.burden
      ∧ (handOn p f s).handed.ring = s.handed.ring ∧ (handOn p f s).handed.encoder = s.handed.encoder
      ∧ (handOn p f s).handed.reversal = s.handed.reversal ∧ (handOn p f s).handed.trackEmpty = s.handed.trackEmpty
      ∧ (handOn p f s).handed.occupancy = s.handed.occupancy ∧ (handOn p f s).handed.portUMode = s.handed.portUMode
      ∧ (handOn p f s).handed.portUStation = s.handed.portUStation
      ∧ (handOn p f s).handed.portDStation = s.handed.portDStation
      ∧ (handOn p f s).handed.portDExpiry = s.handed.portDExpiry
      ∧ (handOn p f s).handed.stationModes = s.handed.stationModes := by
  unfold handOn; split <;> simp

@[simp] theorem handOn_frame_at (p : PortId) (f : RxFrame) (s : State) : (∀ c, (handOn p f s).bank c = s.bank c) := by
  exact fun c => State.bank_congr (by simp) c

/-! ## A frame is taken -/

@[simp] theorem takeFrame_frame (p : PortId) (bytes : List Byte) (s : State) :
    (takeFrame p bytes s).pending = s.pending ∧ (takeFrame p bytes s).inReset = s.inReset
      ∧ (takeFrame p bytes s).nodeAddr = s.nodeAddr ∧ (takeFrame p bytes s).stopn = s.stopn
      ∧ (takeFrame p bytes s).pos = s.pos ∧ (takeFrame p bytes s).intake = s.intake
      ∧ (takeFrame p bytes s).cls = s.cls ∧ (takeFrame p bytes s).track = s.track
      ∧ (takeFrame p bytes s).banks = s.banks ∧ (takeFrame p bytes s).station = s.station
      ∧ (takeFrame p bytes s).mc = s.mc ∧ (takeFrame p bytes s).proving = s.proving
      ∧ (takeFrame p bytes s).handed.burden = s.handed.burden ∧ (takeFrame p bytes s).handed.ring = s.handed.ring
      ∧ (takeFrame p bytes s).handed.encoder = s.handed.encoder
      ∧ (takeFrame p bytes s).handed.reversal = s.handed.reversal
      ∧ (takeFrame p bytes s).handed.trackEmpty = s.handed.trackEmpty
      ∧ (takeFrame p bytes s).handed.occupancy = s.handed.occupancy
      ∧ (takeFrame p bytes s).handed.portUMode = s.handed.portUMode
      ∧ (takeFrame p bytes s).handed.portUStation = s.handed.portUStation
      ∧ (takeFrame p bytes s).handed.portDStation = s.handed.portDStation
      ∧ (takeFrame p bytes s).handed.portDExpiry = s.handed.portDExpiry
      ∧ (takeFrame p bytes s).handed.stationModes = s.handed.stationModes
      ∧ (takeFrame p bytes s).mgmt.line = s.mgmt.line ∧ (takeFrame p bytes s).mgmt.mask = s.mgmt.mask
      ∧ (takeFrame p bytes s).mgmt.queue = s.mgmt.queue ∧ (takeFrame p bytes s).mgmt.softReset = s.mgmt.softReset := by
  unfold takeFrame; split <;> [skip; (split <;> [split; skip])] <;> simp

@[simp] theorem takeFrame_frame_at (p : PortId) (bytes : List Byte) (s : State) : (∀ c, (takeFrame p bytes s).bank c = s.bank c) := by
  exact fun c => State.bank_congr (by simp) c

/-! ## The return lane's frame is sent -/

@[simp] theorem finishReturn_frame (s : State) :
    (finishReturn s).pending = s.pending ∧ (finishReturn s).inReset = s.inReset
      ∧ (finishReturn s).nodeAddr = s.nodeAddr ∧ (finishReturn s).stopn = s.stopn ∧ (finishReturn s).pos = s.pos
      ∧ (finishReturn s).intake = s.intake ∧ (finishReturn s).cls = s.cls ∧ (finishReturn s).track = s.track
      ∧ (finishReturn s).banks = s.banks ∧ (finishReturn s).station = s.station ∧ (finishReturn s).mc = s.mc
      ∧ (finishReturn s).portD = s.portD ∧ (finishReturn s).proving = s.proving ∧ (finishReturn s).handed = s.handed
      ∧ (finishReturn s).portU.link = s.portU.link ∧ (finishReturn s).portU.queue = s.portU.queue
      ∧ (finishReturn s).portU.relayDrops = s.portU.relayDrops
      ∧ (finishReturn s).portU.returnDrops = s.portU.returnDrops ∧ (finishReturn s).mgmt.queue = s.mgmt.queue
      ∧ (finishReturn s).mgmt.flags = s.mgmt.flags ∧ (finishReturn s).mgmt.mask = s.mgmt.mask
      ∧ (finishReturn s).mgmt.alert = s.mgmt.alert ∧ (finishReturn s).mgmt.line = s.mgmt.line := by
  unfold finishReturn; dsimp only; split <;> simp

@[simp] theorem finishReturn_frame_at (s : State) :
    (∀ c, (finishReturn s).bank c = s.bank c) ∧ (∀ c, (finishReturn s).bankHanded c = s.bankHanded c)
      ∧ (∀ q, (finishReturn s).link q = s.link q) ∧ (∀ q, (finishReturn s).linked q = s.linked q) := by
  exact ⟨fun c => State.bank_congr (by simp) c,
    fun c => State.bankHanded_congr (by simp) c,
    State.link_congr (by simp) (by simp),
    fun q => State.linked_congr (State.link_congr (by simp) (by simp) q)⟩

/-! ## The checker takes bits -/

@[simp] theorem feedChecker_frame (want : Bool) (bits : List Bool) (s : State) :
    (feedChecker want bits s).pending = s.pending ∧ (feedChecker want bits s).inReset = s.inReset
      ∧ (feedChecker want bits s).nodeAddr = s.nodeAddr ∧ (feedChecker want bits s).stopn = s.stopn
      ∧ (feedChecker want bits s).pos = s.pos ∧ (feedChecker want bits s).intake = s.intake
      ∧ (feedChecker want bits s).cls = s.cls ∧ (feedChecker want bits s).track = s.track
      ∧ (feedChecker want bits s).banks = s.banks ∧ (feedChecker want bits s).station = s.station
      ∧ (feedChecker want bits s).mc = s.mc ∧ (feedChecker want bits s).portU = s.portU
      ∧ (feedChecker want bits s).portD = s.portD ∧ (feedChecker want bits s).mgmt = s.mgmt
      ∧ (feedChecker want bits s).handed = s.handed := by
  and_intros <;> (unfold feedChecker; split <;> [(split <;> rfl); rfl])

@[simp] theorem feedChecker_frame_at (want : Bool) (bits : List Bool) (s : State) :
    (∀ c, (feedChecker want bits s).bank c = s.bank c)
      ∧ (∀ c, (feedChecker want bits s).bankHanded c = s.bankHanded c)
      ∧ (∀ q, (feedChecker want bits s).link q = s.link q) ∧ (∀ q, (feedChecker want bits s).linked q = s.linked q) := by
  exact ⟨fun c => State.bank_congr (by simp) c,
    fun c => State.bankHanded_congr (by simp) c,
    State.link_congr (by simp) (by simp),
    fun q => State.linked_congr (State.link_congr (by simp) (by simp) q)⟩

/-! ## The three frames of a link-up -/

@[simp] theorem issueAll_frame (s : State) :
    (issueAll s).pending = s.pending ∧ (issueAll s).inReset = s.inReset ∧ (issueAll s).nodeAddr = s.nodeAddr
      ∧ (issueAll s).stopn = s.stopn ∧ (issueAll s).pos = s.pos ∧ (issueAll s).intake = s.intake
      ∧ (issueAll s).cls = s.cls ∧ (issueAll s).track = s.track ∧ (issueAll s).banks = s.banks
      ∧ (issueAll s).station = s.station ∧ (issueAll s).mc = s.mc ∧ (issueAll s).portU = s.portU
      ∧ (issueAll s).proving = s.proving ∧ (issueAll s).mgmt = s.mgmt ∧ (issueAll s).handed = s.handed
      ∧ (issueAll s).portD.link = s.portD.link ∧ (issueAll s).portD.fireOverruns = s.portD.fireOverruns := by
  simp [issueAll]

@[simp] theorem issueAll_frame_at (s : State) :
    (∀ c, (issueAll s).bank c = s.bank c) ∧ (∀ c, (issueAll s).bankHanded c = s.bankHanded c)
      ∧ (∀ q, (issueAll s).link q = s.link q) ∧ (∀ q, (issueAll s).linked q = s.linked q) := by
  exact ⟨fun c => State.bank_congr (by simp) c,
    fun c => State.bankHanded_congr (by simp) c,
    State.link_congr (by simp) (by simp),
    fun q => State.linked_congr (State.link_congr (by simp) (by simp) q)⟩

/-! ## The ring advances -/

@[simp] theorem advanceRing_frame (s : State) :
    (advanceRing s).pending = s.pending ∧ (advanceRing s).inReset = s.inReset ∧ (advanceRing s).nodeAddr = s.nodeAddr
      ∧ (advanceRing s).stopn = s.stopn ∧ (advanceRing s).pos = s.pos ∧ (advanceRing s).intake = s.intake
      ∧ (advanceRing s).cls = s.cls ∧ (advanceRing s).track = s.track ∧ (advanceRing s).banks = s.banks
      ∧ (advanceRing s).mc = s.mc ∧ (advanceRing s).portU = s.portU ∧ (advanceRing s).proving = s.proving
      ∧ (advanceRing s).mgmt = s.mgmt ∧ (advanceRing s).handed = s.handed ∧ (advanceRing s).portD.link = s.portD.link := by
  unfold advanceRing; dsimp only; split <;> [skip; split] <;> simp

@[simp] theorem advanceRing_frame_at (s : State) :
    (∀ c, (advanceRing s).bank c = s.bank c) ∧ (∀ c, (advanceRing s).bankHanded c = s.bankHanded c)
      ∧ (∀ q, (advanceRing s).link q = s.link q) ∧ (∀ q, (advanceRing s).linked q = s.linked q) := by
  exact ⟨fun c => State.bank_congr (by simp) c,
    fun c => State.bankHanded_congr (by simp) c,
    State.link_congr (by simp) (by simp),
    fun q => State.linked_congr (State.link_congr (by simp) (by simp) q)⟩

/-! ## A change of mode at the station -/

@[simp] theorem takeStationMode_frame (m : Mode) (s : State) :
    (takeStationMode m s).pending = s.pending ∧ (takeStationMode m s).inReset = s.inReset
      ∧ (takeStationMode m s).nodeAddr = s.nodeAddr ∧ (takeStationMode m s).stopn = s.stopn
      ∧ (takeStationMode m s).pos = s.pos ∧ (takeStationMode m s).intake = s.intake
      ∧ (takeStationMode m s).cls = s.cls ∧ (takeStationMode m s).track = s.track
      ∧ (takeStationMode m s).banks = s.banks ∧ (takeStationMode m s).mc = s.mc
      ∧ (takeStationMode m s).portU = s.portU ∧ (takeStationMode m s).proving = s.proving
      ∧ (takeStationMode m s).mgmt = s.mgmt ∧ (takeStationMode m s).handed = s.handed
      ∧ (takeStationMode m s).portD.link = s.portD.link := by
  unfold takeStationMode; dsimp only; split <;> simp

@[simp] theorem takeStationMode_frame_at (m : Mode) (s : State) :
    (∀ c, (takeStationMode m s).bank c = s.bank c) ∧ (∀ c, (takeStationMode m s).bankHanded c = s.bankHanded c)
      ∧ (∀ q, (takeStationMode m s).link q = s.link q) ∧ (∀ q, (takeStationMode m s).linked q = s.linked q) := by
  exact ⟨fun c => State.bank_congr (by simp) c,
    fun c => State.bankHanded_congr (by simp) c,
    State.link_congr (by simp) (by simp),
    fun q => State.linked_congr (State.link_congr (by simp) (by simp) q)⟩

/-! ## Port U's report at the station -/

@[simp] theorem portUReport_frame (r : LinkReport) (s : State) :
    (portUReport r s).pending = s.pending ∧ (portUReport r s).inReset = s.inReset
      ∧ (portUReport r s).nodeAddr = s.nodeAddr ∧ (portUReport r s).stopn = s.stopn ∧ (portUReport r s).pos = s.pos
      ∧ (portUReport r s).intake = s.intake ∧ (portUReport r s).cls = s.cls ∧ (portUReport r s).track = s.track
      ∧ (portUReport r s).banks = s.banks ∧ (portUReport r s).mc = s.mc ∧ (portUReport r s).portU = s.portU
      ∧ (portUReport r s).proving = s.proving ∧ (portUReport r s).mgmt = s.mgmt ∧ (portUReport r s).handed = s.handed
      ∧ (portUReport r s).portD.link = s.portD.link := by
  unfold portUReport; split <;> simp

@[simp] theorem portUReport_frame_at (r : LinkReport) (s : State) :
    (∀ c, (portUReport r s).bank c = s.bank c) ∧ (∀ c, (portUReport r s).bankHanded c = s.bankHanded c)
      ∧ (∀ q, (portUReport r s).link q = s.link q) ∧ (∀ q, (portUReport r s).linked q = s.linked q) := by
  exact ⟨fun c => State.bank_congr (by simp) c,
    fun c => State.bankHanded_congr (by simp) c,
    State.link_congr (by simp) (by simp),
    fun q => State.linked_congr (State.link_congr (by simp) (by simp) q)⟩

/-! ## A bank's AIR report at the station -/

@[simp] theorem airReportTaken_frame (i : BankIx) (on : Bool) (s : State) :
    (airReportTaken i on s).pending = s.pending ∧ (airReportTaken i on s).inReset = s.inReset
      ∧ (airReportTaken i on s).nodeAddr = s.nodeAddr ∧ (airReportTaken i on s).stopn = s.stopn
      ∧ (airReportTaken i on s).pos = s.pos ∧ (airReportTaken i on s).intake = s.intake
      ∧ (airReportTaken i on s).cls = s.cls ∧ (airReportTaken i on s).track = s.track
      ∧ (airReportTaken i on s).banks = s.banks ∧ (airReportTaken i on s).mc = s.mc
      ∧ (airReportTaken i on s).portU = s.portU ∧ (airReportTaken i on s).proving = s.proving
      ∧ (airReportTaken i on s).mgmt = s.mgmt ∧ (airReportTaken i on s).handed = s.handed
      ∧ (airReportTaken i on s).portD.link = s.portD.link := by
  simp [airReportTaken]

@[simp] theorem airReportTaken_frame_at (i : BankIx) (on : Bool) (s : State) :
    (∀ c, (airReportTaken i on s).bank c = s.bank c) ∧ (∀ c, (airReportTaken i on s).bankHanded c = s.bankHanded c)
      ∧ (∀ q, (airReportTaken i on s).link q = s.link q) ∧ (∀ q, (airReportTaken i on s).linked q = s.linked q) := by
  exact ⟨fun c => State.bank_congr (by simp) c,
    fun c => State.bankHanded_congr (by simp) c,
    State.link_congr (by simp) (by simp),
    fun q => State.linked_congr (State.link_congr (by simp) (by simp) q)⟩

/-! ## A LINE write -/

@[simp] theorem applyLine_frame (e : LineEntry) (s : State) :
    (applyLine e s).pending = s.pending ∧ (applyLine e s).inReset = s.inReset ∧ (applyLine e s).nodeAddr = s.nodeAddr
      ∧ (applyLine e s).stopn = s.stopn ∧ (applyLine e s).intake = s.intake ∧ (applyLine e s).cls = s.cls
      ∧ (applyLine e s).track = s.track ∧ (applyLine e s).banks = s.banks ∧ (applyLine e s).station = s.station
      ∧ (applyLine e s).mc = s.mc ∧ (applyLine e s).portU = s.portU ∧ (applyLine e s).portD = s.portD
      ∧ (applyLine e s).proving = s.proving ∧ (applyLine e s).handed = s.handed := by
  and_intros <;> rfl

@[simp] theorem applyLine_frame_at (e : LineEntry) (s : State) :
    (∀ c, (applyLine e s).bank c = s.bank c) ∧ (∀ c, (applyLine e s).bankHanded c = s.bankHanded c)
      ∧ (∀ q, (applyLine e s).link q = s.link q) ∧ (∀ q, (applyLine e s).linked q = s.linked q) := by
  exact ⟨fun c => State.bank_congr (by simp) c,
    fun c => State.bankHanded_congr (by simp) c,
    State.link_congr (by simp) (by simp),
    fun q => State.linked_congr (State.link_congr (by simp) (by simp) q)⟩

/-! ## A STATION write -/

@[simp] theorem applyStation_frame (e : StationEntry) (s : State) :
    (applyStation e s).pending = s.pending ∧ (applyStation e s).inReset = s.inReset
      ∧ (applyStation e s).nodeAddr = s.nodeAddr ∧ (applyStation e s).stopn = s.stopn ∧ (applyStation e s).pos = s.pos
      ∧ (applyStation e s).intake = s.intake ∧ (applyStation e s).cls = s.cls ∧ (applyStation e s).track = s.track
      ∧ (applyStation e s).banks = s.banks ∧ (applyStation e s).mc = s.mc ∧ (applyStation e s).portU = s.portU
      ∧ (applyStation e s).proving = s.proving ∧ (applyStation e s).mgmt = s.mgmt
      ∧ (applyStation e s).handed = s.handed ∧ (applyStation e s).portD.link = s.portD.link := by
  unfold applyStation; dsimp only; repeat' split
  all_goals simp

@[simp] theorem applyStation_frame_at (e : StationEntry) (s : State) :
    (∀ c, (applyStation e s).bank c = s.bank c) ∧ (∀ c, (applyStation e s).bankHanded c = s.bankHanded c)
      ∧ (∀ q, (applyStation e s).link q = s.link q) ∧ (∀ q, (applyStation e s).linked q = s.linked q) := by
  exact ⟨fun c => State.bank_congr (by simp) c,
    fun c => State.bankHanded_congr (by simp) c,
    State.link_congr (by simp) (by simp),
    fun q => State.linked_congr (State.link_congr (by simp) (by simp) q)⟩

/-! ## A BAND write -/

@[simp] theorem applyBand_frame (k : Fin 8) (e : BandEntry) (s : State) :
    (applyBand k e s).pending = s.pending ∧ (applyBand k e s).inReset = s.inReset
      ∧ (applyBand k e s).nodeAddr = s.nodeAddr ∧ (applyBand k e s).stopn = s.stopn ∧ (applyBand k e s).pos = s.pos
      ∧ (applyBand k e s).intake = s.intake ∧ (applyBand k e s).cls = s.cls ∧ (applyBand k e s).track = s.track
      ∧ (applyBand k e s).banks = s.banks ∧ (applyBand k e s).mc = s.mc ∧ (applyBand k e s).portU = s.portU
      ∧ (applyBand k e s).proving = s.proving ∧ (applyBand k e s).mgmt = s.mgmt ∧ (applyBand k e s).handed = s.handed
      ∧ (applyBand k e s).portD.link = s.portD.link := by
  unfold applyBand; dsimp only; split <;> simp

@[simp] theorem applyBand_frame_at (k : Fin 8) (e : BandEntry) (s : State) :
    (∀ c, (applyBand k e s).bank c = s.bank c) ∧ (∀ c, (applyBand k e s).bankHanded c = s.bankHanded c)
      ∧ (∀ q, (applyBand k e s).link q = s.link q) ∧ (∀ q, (applyBand k e s).linked q = s.linked q) := by
  exact ⟨fun c => State.bank_congr (by simp) c,
    fun c => State.bankHanded_congr (by simp) c,
    State.link_congr (by simp) (by simp),
    fun q => State.linked_congr (State.link_congr (by simp) (by simp) q)⟩

/-! ## A BANK write -/

@[simp] theorem applyBank_frame (i : BankIx) (e : BankEntry) (s : State) :
    (applyBank i e s).pending = s.pending ∧ (applyBank i e s).inReset = s.inReset
      ∧ (applyBank i e s).nodeAddr = s.nodeAddr ∧ (applyBank i e s).stopn = s.stopn ∧ (applyBank i e s).pos = s.pos
      ∧ (applyBank i e s).intake = s.intake ∧ (applyBank i e s).cls = s.cls ∧ (applyBank i e s).track = s.track
      ∧ (applyBank i e s).station = s.station ∧ (applyBank i e s).mc = s.mc ∧ (applyBank i e s).portU = s.portU
      ∧ (applyBank i e s).portD = s.portD ∧ (applyBank i e s).proving = s.proving ∧ (applyBank i e s).mgmt = s.mgmt
      ∧ (applyBank i e s).handed.detects = s.handed.detects ∧ (applyBank i e s).handed.requests = s.handed.requests
      ∧ (applyBank i e s).handed.burden = s.handed.burden ∧ (applyBank i e s).handed.ring = s.handed.ring
      ∧ (applyBank i e s).handed.encoder = s.handed.encoder ∧ (applyBank i e s).handed.reversal = s.handed.reversal
      ∧ (applyBank i e s).handed.trackEmpty = s.handed.trackEmpty
      ∧ (applyBank i e s).handed.occupancy = s.handed.occupancy
      ∧ (applyBank i e s).handed.portUMode = s.handed.portUMode
      ∧ (applyBank i e s).handed.portUStation = s.handed.portUStation
      ∧ (applyBank i e s).handed.portDStation = s.handed.portDStation
      ∧ (applyBank i e s).handed.portDExpiry = s.handed.portDExpiry
      ∧ (applyBank i e s).handed.stationModes = s.handed.stationModes := by
  simp [applyBank]

@[simp] theorem applyBank_frame_at (i : BankIx) (e : BankEntry) (s : State) :
    (∀ q, (applyBank i e s).link q = s.link q) ∧ (∀ q, (applyBank i e s).linked q = s.linked q) := by
  exact ⟨State.link_congr (by simp) (by simp),
    fun q => State.linked_congr (State.link_congr (by simp) (by simp) q)⟩

/-! ## The LINK counters are cleared -/

@[simp] theorem clearLink_frame (s : State) :
    (clearLink s).pending = s.pending ∧ (clearLink s).inReset = s.inReset ∧ (clearLink s).nodeAddr = s.nodeAddr
      ∧ (clearLink s).stopn = s.stopn ∧ (clearLink s).pos = s.pos ∧ (clearLink s).intake = s.intake
      ∧ (clearLink s).cls = s.cls ∧ (clearLink s).track = s.track ∧ (clearLink s).banks = s.banks
      ∧ (clearLink s).station = s.station ∧ (clearLink s).mc = s.mc ∧ (clearLink s).proving = s.proving
      ∧ (clearLink s).mgmt = s.mgmt ∧ (clearLink s).handed = s.handed ∧ (clearLink s).portU.queue = s.portU.queue
      ∧ (clearLink s).portU.tx = s.portU.tx ∧ (clearLink s).portD.fire = s.portD.fire
      ∧ (clearLink s).portD.drive = s.portD.drive ∧ (clearLink s).portD.relay = s.portD.relay
      ∧ (clearLink s).portD.tx = s.portD.tx := by
  and_intros <;> rfl

@[simp] theorem clearLink_frame_at (s : State) :
    (∀ c, (clearLink s).bank c = s.bank c) ∧ (∀ c, (clearLink s).bankHanded c = s.bankHanded c) := by
  exact ⟨fun c => State.bank_congr (by simp) c,
    fun c => State.bankHanded_congr (by simp) c⟩

/-! ## The ports' part of a reset -/

@[simp] theorem resetPorts_frame (kept : Option Frame) (s : State) :
    (resetPorts kept s).pending = s.pending ∧ (resetPorts kept s).inReset = s.inReset
      ∧ (resetPorts kept s).nodeAddr = s.nodeAddr ∧ (resetPorts kept s).stopn = s.stopn
      ∧ (resetPorts kept s).pos = s.pos ∧ (resetPorts kept s).intake = s.intake ∧ (resetPorts kept s).cls = s.cls
      ∧ (resetPorts kept s).track = s.track ∧ (resetPorts kept s).banks = s.banks
      ∧ (resetPorts kept s).station = s.station ∧ (resetPorts kept s).mc = s.mc ∧ (resetPorts kept s).mgmt = s.mgmt
      ∧ (resetPorts kept s).handed = s.handed := by
  simp [resetPorts]

@[simp] theorem resetPorts_frame_at (kept : Option Frame) (s : State) :
    (∀ c, (resetPorts kept s).bank c = s.bank c) ∧ (∀ c, (resetPorts kept s).bankHanded c = s.bankHanded c) := by
  exact ⟨fun c => State.bank_congr (by simp) c,
    fun c => State.bankHanded_congr (by simp) c⟩

/-! ## The station's part of a reset -/

@[simp] theorem resetStation_frame (s : State) :
    (resetStation s).pending = s.pending ∧ (resetStation s).inReset = s.inReset
      ∧ (resetStation s).nodeAddr = s.nodeAddr ∧ (resetStation s).stopn = s.stopn ∧ (resetStation s).pos = s.pos
      ∧ (resetStation s).intake = s.intake ∧ (resetStation s).cls = s.cls ∧ (resetStation s).track = s.track
      ∧ (resetStation s).banks = s.banks ∧ (resetStation s).mc = s.mc ∧ (resetStation s).portU = s.portU
      ∧ (resetStation s).proving = s.proving ∧ (resetStation s).mgmt = s.mgmt ∧ (resetStation s).handed = s.handed
      ∧ (resetStation s).portD.link = s.portD.link := by
  simp [resetStation]

@[simp] theorem resetStation_frame_at (s : State) :
    (∀ c, (resetStation s).bank c = s.bank c) ∧ (∀ c, (resetStation s).bankHanded c = s.bankHanded c)
      ∧ (∀ q, (resetStation s).link q = s.link q) ∧ (∀ q, (resetStation s).linked q = s.linked q) := by
  exact ⟨fun c => State.bank_congr (by simp) c,
    fun c => State.bankHanded_congr (by simp) c,
    State.link_congr (by simp) (by simp),
    fun q => State.linked_congr (State.link_congr (by simp) (by simp) q)⟩

/-! ## A reset of every block -/

@[simp] theorem resetBlocks_frame (kept : Option Frame) (s : State) :
    (resetBlocks kept s).pending = s.pending ∧ (resetBlocks kept s).inReset = s.inReset
      ∧ (resetBlocks kept s).nodeAddr = s.nodeAddr ∧ (resetBlocks kept s).stopn = s.stopn
      ∧ (resetBlocks kept s).mgmt.line = s.mgmt.line ∧ (resetBlocks kept s).mgmt.mask = s.mgmt.mask := by
  simp [resetBlocks]

/-! ## A SOFT RESET is accepted -/

@[simp] theorem acceptReset_frame (r : Request) (s : State) :
    (acceptReset r s).pending = s.pending ∧ (acceptReset r s).inReset = s.inReset
      ∧ (acceptReset r s).nodeAddr = s.nodeAddr ∧ (acceptReset r s).stopn = s.stopn ∧ (acceptReset r s).pos = s.pos
      ∧ (acceptReset r s).intake = s.intake ∧ (acceptReset r s).cls = s.cls ∧ (acceptReset r s).track = s.track
      ∧ (acceptReset r s).banks = s.banks ∧ (acceptReset r s).station = s.station ∧ (acceptReset r s).mc = s.mc
      ∧ (acceptReset r s).portD = s.portD ∧ (acceptReset r s).proving = s.proving
      ∧ (acceptReset r s).handed = s.handed ∧ (acceptReset r s).portU.link = s.portU.link
      ∧ (acceptReset r s).mgmt.queue = s.mgmt.queue ∧ (acceptReset r s).mgmt.flags = s.mgmt.flags
      ∧ (acceptReset r s).mgmt.mask = s.mgmt.mask ∧ (acceptReset r s).mgmt.alert = s.mgmt.alert
      ∧ (acceptReset r s).mgmt.line = s.mgmt.line := by
  unfold acceptReset; dsimp only; split <;> simp

@[simp] theorem acceptReset_frame_at (r : Request) (s : State) :
    (∀ c, (acceptReset r s).bank c = s.bank c) ∧ (∀ c, (acceptReset r s).bankHanded c = s.bankHanded c)
      ∧ (∀ q, (acceptReset r s).link q = s.link q) ∧ (∀ q, (acceptReset r s).linked q = s.linked q) := by
  exact ⟨fun c => State.bank_congr (by simp) c,
    fun c => State.bankHanded_congr (by simp) c,
    State.link_congr (by simp) (by simp),
    fun q => State.linked_congr (State.link_congr (by simp) (by simp) q)⟩

/-! ## A forward transition -/

@[simp] theorem forwardStep_frame (s : State) :
    (forwardStep s).pending = s.pending ∧ (forwardStep s).inReset = s.inReset ∧ (forwardStep s).nodeAddr = s.nodeAddr
      ∧ (forwardStep s).stopn = s.stopn ∧ (forwardStep s).intake = s.intake ∧ (forwardStep s).cls = s.cls
      ∧ (forwardStep s).track = s.track ∧ (forwardStep s).banks = s.banks ∧ (forwardStep s).station = s.station
      ∧ (forwardStep s).mc = s.mc ∧ (forwardStep s).portU = s.portU ∧ (forwardStep s).portD = s.portD
      ∧ (forwardStep s).proving = s.proving ∧ (forwardStep s).mgmt = s.mgmt
      ∧ (forwardStep s).handed.detects = s.handed.detects ∧ (forwardStep s).handed.requests = s.handed.requests
      ∧ (forwardStep s).handed.burden = s.handed.burden ∧ (forwardStep s).handed.encoder = s.handed.encoder
      ∧ (forwardStep s).handed.reversal = s.handed.reversal ∧ (forwardStep s).handed.trackEmpty = s.handed.trackEmpty
      ∧ (forwardStep s).handed.occupancy = s.handed.occupancy ∧ (forwardStep s).handed.portUMode = s.handed.portUMode
      ∧ (forwardStep s).handed.portUStation = s.handed.portUStation
      ∧ (forwardStep s).handed.portDStation = s.handed.portDStation
      ∧ (forwardStep s).handed.portDExpiry = s.handed.portDExpiry
      ∧ (forwardStep s).handed.stationModes = s.handed.stationModes ∧ (forwardStep s).handed.banks = s.handed.banks := by
  unfold forwardStep; dsimp only; repeat' split
  all_goals (and_intros <;> rfl)

@[simp] theorem forwardStep_frame_at (s : State) :
    (∀ c, (forwardStep s).bank c = s.bank c) ∧ (∀ c, (forwardStep s).bankHanded c = s.bankHanded c)
      ∧ (∀ q, (forwardStep s).link q = s.link q) ∧ (∀ q, (forwardStep s).linked q = s.linked q) := by
  exact ⟨fun c => State.bank_congr (by simp) c,
    fun c => State.bankHanded_congr (by simp) c,
    State.link_congr (by simp) (by simp),
    fun q => State.linked_congr (State.link_congr (by simp) (by simp) q)⟩

/-! ## A reverse transition -/

@[simp] theorem reverseStep_frame (s : State) :
    (reverseStep s).pending = s.pending ∧ (reverseStep s).inReset = s.inReset ∧ (reverseStep s).nodeAddr = s.nodeAddr
      ∧ (reverseStep s).stopn = s.stopn ∧ (reverseStep s).intake = s.intake ∧ (reverseStep s).cls = s.cls
      ∧ (reverseStep s).track = s.track ∧ (reverseStep s).banks = s.banks ∧ (reverseStep s).station = s.station
      ∧ (reverseStep s).mc = s.mc ∧ (reverseStep s).portD = s.portD ∧ (reverseStep s).proving = s.proving
      ∧ (reverseStep s).handed.detects = s.handed.detects ∧ (reverseStep s).handed.requests = s.handed.requests
      ∧ (reverseStep s).handed.burden = s.handed.burden ∧ (reverseStep s).handed.ring = s.handed.ring
      ∧ (reverseStep s).handed.encoder = s.handed.encoder ∧ (reverseStep s).handed.trackEmpty = s.handed.trackEmpty
      ∧ (reverseStep s).handed.occupancy = s.handed.occupancy ∧ (reverseStep s).handed.portUMode = s.handed.portUMode
      ∧ (reverseStep s).handed.portUStation = s.handed.portUStation
      ∧ (reverseStep s).handed.portDStation = s.handed.portDStation
      ∧ (reverseStep s).handed.portDExpiry = s.handed.portDExpiry
      ∧ (reverseStep s).handed.stationModes = s.handed.stationModes ∧ (reverseStep s).handed.banks = s.handed.banks
      ∧ (reverseStep s).mgmt.line = s.mgmt.line ∧ (reverseStep s).mgmt.mask = s.mgmt.mask
      ∧ (reverseStep s).mgmt.queue = s.mgmt.queue ∧ (reverseStep s).mgmt.softReset = s.mgmt.softReset
      ∧ (reverseStep s).portU.link = s.portU.link ∧ (reverseStep s).pos.tp = s.pos.tp
      ∧ (reverseStep s).pos.w = s.pos.w ∧ (reverseStep s).pos.c = s.pos.c
      ∧ (reverseStep s).pos.history = s.pos.history ∧ (reverseStep s).pos.bin = s.pos.bin
      ∧ (reverseStep s).pos.illegal = s.pos.illegal := by
  unfold reverseStep; dsimp only; split <;> simp

@[simp] theorem reverseStep_frame_at (s : State) :
    (∀ c, (reverseStep s).bank c = s.bank c) ∧ (∀ c, (reverseStep s).bankHanded c = s.bankHanded c)
      ∧ (∀ q, (reverseStep s).link q = s.link q) ∧ (∀ q, (reverseStep s).linked q = s.linked q) := by
  exact ⟨fun c => State.bank_congr (by simp) c,
    fun c => State.bankHanded_congr (by simp) c,
    State.link_congr (by simp) (by simp),
    fun q => State.linked_congr (State.link_congr (by simp) (by simp) q)⟩

/-! ## An illegal transition -/

@[simp] theorem illegalStep_frame (s : State) :
    (illegalStep s).pending = s.pending ∧ (illegalStep s).inReset = s.inReset ∧ (illegalStep s).nodeAddr = s.nodeAddr
      ∧ (illegalStep s).stopn = s.stopn ∧ (illegalStep s).intake = s.intake ∧ (illegalStep s).cls = s.cls
      ∧ (illegalStep s).track = s.track ∧ (illegalStep s).banks = s.banks ∧ (illegalStep s).station = s.station
      ∧ (illegalStep s).mc = s.mc ∧ (illegalStep s).portU = s.portU ∧ (illegalStep s).portD = s.portD
      ∧ (illegalStep s).proving = s.proving ∧ (illegalStep s).mgmt = s.mgmt
      ∧ (illegalStep s).handed.detects = s.handed.detects ∧ (illegalStep s).handed.requests = s.handed.requests
      ∧ (illegalStep s).handed.burden = s.handed.burden ∧ (illegalStep s).handed.ring = s.handed.ring
      ∧ (illegalStep s).handed.reversal = s.handed.reversal ∧ (illegalStep s).handed.trackEmpty = s.handed.trackEmpty
      ∧ (illegalStep s).handed.occupancy = s.handed.occupancy ∧ (illegalStep s).handed.portUMode = s.handed.portUMode
      ∧ (illegalStep s).handed.portUStation = s.handed.portUStation
      ∧ (illegalStep s).handed.portDStation = s.handed.portDStation
      ∧ (illegalStep s).handed.portDExpiry = s.handed.portDExpiry
      ∧ (illegalStep s).handed.stationModes = s.handed.stationModes ∧ (illegalStep s).handed.banks = s.handed.banks
      ∧ (illegalStep s).pos.tp = s.pos.tp ∧ (illegalStep s).pos.e = s.pos.e ∧ (illegalStep s).pos.w = s.pos.w
      ∧ (illegalStep s).pos.c = s.pos.c ∧ (illegalStep s).pos.history = s.pos.history
      ∧ (illegalStep s).pos.bin = s.pos.bin := by
  unfold illegalStep; dsimp only; split <;> (and_intros <;> rfl)

@[simp] theorem illegalStep_frame_at (s : State) :
    (∀ c, (illegalStep s).bank c = s.bank c) ∧ (∀ c, (illegalStep s).bankHanded c = s.bankHanded c)
      ∧ (∀ q, (illegalStep s).link q = s.link q) ∧ (∀ q, (illegalStep s).linked q = s.linked q) := by
  exact ⟨fun c => State.bank_congr (by simp) c,
    fun c => State.bankHanded_congr (by simp) c,
    State.link_congr (by simp) (by simp),
    fun q => State.linked_congr (State.link_congr (by simp) (by simp) q)⟩

end Sys2Proof.Machine
end

