-- ==== Sys2Proof/Laws/Ops.lean ====
section
/-! SUPPORT. What the shared operations do: steps, requests, counts, flags, images and lanes, a boundary at a bank, AIR
reports, the Item Track, the ports. -/

namespace Sys2Proof.Machine

/-! ## Steps -/

/-- A relation that does not read the queue and that every command keeps is kept by every step. -/
theorem step_keeps (P : State → Prop) (hqueue : ∀ s q, P s → P { s with pending := q })
    (hexec : ∀ c s t, P s → exec c s = .next t → P t) (s t : State) (h : P s) (hs : step s = .next t) : P t := by
  unfold step at hs; split at hs
  · injection hs with hs; subst hs; exact h
  · exact hexec _ _ _ (hqueue _ _ h) hs

/-- A relation that an effect keeps is kept by its command, RESETn asserted or not. -/
theorem whenRunning_keeps {P : State → Prop} {f : State → State} {s t : State} (hs : P s) (hf : P s → P (f s))
    (h : whenRunning f s = .next t) : P t := by
  rcases whenRunning_eq_next h with ⟨_, rfl⟩ | ⟨_, rfl⟩
  · exact hf hs
  · exact hs

/-! ## Requests -/

/-- All that serving the head request can do: nothing, or the effect, the answer and the request out of the queue. -/
theorem serve_cases (want : Decoded → Option Act) (s : State) :
    serve want s = s ∨ ∃ r rest act, s.mgmt.queue = r :: rest ∧ s.mgmt.softReset = .none
      ∧ want (decodeRequest r.payload) = some act
      ∧ serve want s =
          pushOwn (answerFrame r (act s).2) { (act s).1 with mgmt := { (act s).1.mgmt with queue := rest } } := by
  unfold serve
  split
  · simp
  · split
    · simp
    · split
      · simp
      · right; rename_i r rest hq _ act ha
        refine ⟨r, rest, act, hq, by simp_all, ha, rfl⟩

/-- A request at the head of the queue, of the kind asked for, executes and is answered. -/
theorem serve_head {want : Decoded → Option Act} {s : State} {r : Request} {rest : List Request} {act : Act}
    (h : Serves s r rest) (hw : want (decodeRequest r.payload) = some act) :
    whenRunning (serve want) s = .next (answered r rest (act s).2 (act s).1) := by
  obtain ⟨h1, h2, h3⟩ := h
  simp [whenRunning, h1, serve, h2, h3, hw, answered]

/-- A relation that answers, the request queue and the effect leave alone is kept by serving a request. -/
theorem serve_keeps {P : State → Prop} (want : Decoded → Option Act) (s : State) (hs : P s)
    (hpush : ∀ f s, P s → P (pushOwn f s)) (hqueue : ∀ s q, P s → P { s with mgmt := { s.mgmt with queue := q } })
    (hact : ∀ d act, want d = some act → P s → P (act s).1) : P (serve want s) := by
  rcases serve_cases want s with hh | ⟨r, rest, act, _, _, h3, hh⟩
  · rw [hh]; exact hs
  · rw [hh]; exact hpush _ _ (hqueue _ _ (hact _ _ h3 hs))

/-! ## Saturating counts -/

theorem satInc_toNat (c : Counter) : (satInc c).toNat = min (c.toNat + 1) 4294967295 := by
  unfold satInc; split
  · rename_i h; subst h; decide
  · rename_i h
    have : c.toNat ≠ 4294967295 := fun h' => h (BitVec.eq_of_toNat_eq (by rw [h']; decide))
    rw [BitVec.toNat_add]; have := c.isLt; simp; omega

theorem satAdd_toNat (c : Counter) (n : Nat) : (satAdd c n).toNat = min (c.toNat + n) 4294967295 := by
  unfold satAdd; rw [BitVec.toNat_ofNat, Nat.mod_eq_of_lt]; omega

/-! ## Flags -/

theorem raise_one (f : EventFlag) (s : State) : raise [f] s = raiseOne f s := by cases f <;> rfl

theorem raiseOne_flags (f : EventFlag) (s : State) :
    (raiseOne f s).mgmt.flags = s.mgmt.flags ||| BitVec.twoPow 15 f.num := by
  unfold raiseOne; split
  · rename_i h
    apply BitVec.eq_of_getLsbD_eq; intro i hi
    simp [BitVec.getLsbD_twoPow]
    rintro - rfl; exact h
  · split <;> simp

/-- A raised flag is set afterwards. -/
theorem raise_sets (fs : List EventFlag) (s : State) (f : EventFlag) (h : f ∈ fs) :
    (raise fs s).mgmt.flags.getLsbD f.num = true := by
  have hall : f ∈ EventFlag.all.filter (fun f => f ∈ fs) := by
    rw [List.mem_filter]; exact ⟨by cases f <;> decide, by simpa using h⟩
  unfold raise
  generalize EventFlag.all.filter (fun f => f ∈ fs) = l at *
  have mono : ∀ (l : List EventFlag) s i, s.mgmt.flags.getLsbD i = true →
      (l.foldl (fun s f => raiseOne f s) s).mgmt.flags.getLsbD i = true := by
    intro l; induction l with
    | nil => intro s i h; exact h
    | cons x xs ih => intro s i h; rw [List.foldl_cons]; apply ih; rw [raiseOne_flags, BitVec.getLsbD_or, h]; rfl
  induction l generalizing s with
  | nil => simp at hall
  | cons x xs ih =>
    rw [List.foldl_cons]
    rcases List.mem_cons.1 hall with rfl | h
    · apply mono; rw [raiseOne_flags, BitVec.getLsbD_or, BitVec.getLsbD_twoPow]; cases f <;> simp [EventFlag.num]
    · exact ih _ h

/-- Only which flags are named matters, not their order (R183). -/
theorem raise_ext {fs gs : List EventFlag} (h : ∀ f, f ∈ fs ↔ f ∈ gs) (s : State) : raise fs s = raise gs s := by
  unfold raise; simp only [h]

/-! ## The transmit lanes -/

/-- Starting the next return frame keeps the frames and their order. -/
theorem offerReturn_returnFrames (s : State) : (offerReturn s).returnFrames = s.returnFrames := by
  unfold offerReturn State.returnFrames; split
  · rename_i h; unfold startReturn; split <;> simp_all
  · rfl

/-- No return frame starts while Port U is not LINKED, its lane busy, or a SOFT RESET due. -/
theorem offerReturn_held {s : State}
    (h : (s.link .u).state ≠ .linked ∨ s.portU.tx ≠ none ∨ s.mgmt.softReset.isDue = true) : offerReturn s = s := by
  unfold offerReturn; rw [if_neg]; simp only [State.linked, decide_eq_true_eq]; rintro ⟨h1, h2, h3⟩; simp_all

/-- The oldest return frame takes a free lane of a LINKED Port U. -/
theorem offerReturn_starts {s : State} {f : TxFrame} {rest : List TxFrame} (h1 : (s.link .u).state = .linked)
    (h2 : s.portU.tx = none) (h3 : s.mgmt.softReset.isDue = false) (h4 : s.portU.queue = f :: rest) :
    offerReturn s = { s with portU := { s.portU with tx := some f, queue := rest } } := by
  unfold offerReturn; rw [if_pos ⟨decide_eq_true h1, h2, h3⟩]; simp [startReturn, h4]

/-- No forward frame starts while Port D is not LINKED or its lane is busy. -/
theorem offerForward_held {s : State} (h : (s.link .d).state ≠ .linked ∨ s.portD.tx ≠ none) : offerForward s = s := by
  unfold offerForward; rw [if_neg]; simp only [State.linked, decide_eq_true_eq]; rintro ⟨h1, h2⟩; simp_all

theorem firstFire_none {v : Vector (Option Frame) 4} : firstFire v = none ↔ ∀ b : BankIx, v[b] = none := by
  simp [firstFire, BankIx.all, Fin.forall_fin_succ]

/-- The lowest-numbered bank with a waiting FIRE frame. -/
theorem firstFire_some {v : Vector (Option Frame) 4} {b : BankIx} {f : Frame} :
    firstFire v = some (b, f) ↔ v[b] = some f ∧ ∀ c : BankIx, c < b → v[c] = none := by
  have h0 : ∀ o : Option Frame, o = none ∨ ∃ g, o = some g := by intro o; cases o <;> simp
  unfold firstFire BankIx.all
  rcases h0 v[(0 : BankIx)] with h | ⟨g, h⟩ <;> rcases h0 v[(1 : BankIx)] with h1 | ⟨g1, h1⟩ <;>
    rcases h0 v[(2 : BankIx)] with h2 | ⟨g2, h2⟩ <;> rcases h0 v[(3 : BankIx)] with h3 | ⟨g3, h3⟩ <;>
    (fin_cases b <;> simp_all [Fin.forall_fin_succ])

/-- The lowest bank's FIRE frame takes a free lane of a LINKED Port D first. -/
theorem offerForward_fire {s : State} {b : BankIx} {f : Frame} (h1 : (s.link .d).state = .linked)
    (h2 : s.portD.tx = none) (h3 : s.portD.fire[b] = some f) (h4 : ∀ c : BankIx, c < b → s.portD.fire[c] = none) :
    offerForward s = { s with portD := { s.portD with tx := some (.own f), fire := s.portD.fire.set b none } } := by
  unfold offerForward startForward
  rw [if_pos ⟨decide_eq_true h1, h2⟩, firstFire_some.2 ⟨h3, h4⟩]

/-- With no FIRE frame waiting, the first DRIVE frame, else the oldest relayed one, else nothing. -/
theorem offerForward_rest {s : State} (h1 : (s.link .d).state = .linked) (h2 : s.portD.tx = none)
    (h3 : ∀ c : BankIx, s.portD.fire[c] = none) :
    (∀ st f rest, s.portD.drive = (st, f) :: rest →
        offerForward s = { s with portD := { s.portD with tx := some (.own f), drive := rest } })
      ∧ (∀ bytes rest, s.portD.drive = [] → s.portD.relay = bytes :: rest →
        offerForward s = { s with portD := { s.portD with tx := some (.relayed bytes), relay := rest } })
      ∧ (s.portD.drive = [] → s.portD.relay = [] → offerForward s = s) := by
  have h : offerForward s = startForward s := by
    unfold offerForward; rw [if_pos ⟨decide_eq_true h1, h2⟩]
  have hf := firstFire_none.2 h3
  refine ⟨fun st f rest hd => ?_, fun bytes rest hd hr => ?_, fun hd hr => ?_⟩ <;>
    simp_all [startForward]

/-- A free return lane has no frame left waiting, unless a SOFT RESET is due. -/
theorem offerReturn_empties {s : State} (h1 : (s.link .u).state = .linked) (h2 : (offerReturn s).portU.tx = none)
    (h3 : s.mgmt.softReset.isDue = false) : (offerReturn s).portU.queue = [] := by
  by_cases ht : s.portU.tx = none
  · cases hq : s.portU.queue with
    | nil => unfold offerReturn startReturn; rw [if_pos ⟨decide_eq_true h1, ht, h3⟩, hq]; exact hq
    | cons f l => rw [offerReturn_starts h1 ht h3 hq] at h2; cases h2
  · rw [offerReturn_held (.inr (.inl ht))] at h2; exact absurd h2 ht

/-- A free forward lane has no frame left waiting. -/
theorem offerForward_empties {s : State} (h1 : (s.link .d).state = .linked) (h2 : (offerForward s).portD.tx = none) :
    (offerForward s).forwardIdle := by
  by_cases ht : s.portD.tx = none
  · cases hf : firstFire s.portD.fire with
    | some x =>
      have h := firstFire_some.1 hf
      rw [offerForward_fire h1 ht h.1 h.2] at h2; cases h2
    | none =>
      have h3 := firstFire_none.1 hf
      obtain ⟨r1, r2, r3⟩ := offerForward_rest h1 ht h3
      cases hd : s.portD.drive with
      | cons x l => rw [r1 x.1 x.2 l hd] at h2; cases h2
      | nil =>
        cases hr : s.portD.relay with
        | cons x l => rw [r2 _ _ hd hr] at h2; cases h2
        | nil => rw [r3 hd hr]; exact ⟨ht, h3, hd, hr⟩
  · rw [offerForward_held (.inr ht)] at h2; exact absurd h2 ht

/-- A frame of the part joins the return frames at their end or is counted as dropped. -/
theorem pushOwn_return (f : Frame) (s : State) :
    s.returnFrames <+: (pushOwn f s).returnFrames ∧ s.portU.returnDrops ≤ (pushOwn f s).portU.returnDrops := by
  unfold pushOwn; split
  · rw [offerReturn_returnFrames]; simp [State.returnFrames, ← List.append_assoc]
  · simp [State.returnFrames]; rw [BitVec.le_def, satInc_toNat]; have := s.portU.returnDrops.isLt; omega

/-- Raising a flag only adds to the return frames, or to their drops. -/
theorem raiseOne_return (f : EventFlag) (s : State) :
    s.returnFrames <+: (raiseOne f s).returnFrames ∧ s.portU.returnDrops ≤ (raiseOne f s).portU.returnDrops := by
  unfold raiseOne; split
  · simp
  · dsimp only; split
    · exact pushOwn_return _ (setFlags _ s)
    · simp [State.returnFrames]

/-- Raising flags only adds to the return frames, or to their drops. -/
theorem raise_return (fs : List EventFlag) (s : State) :
    s.returnFrames <+: (raise fs s).returnFrames ∧ s.portU.returnDrops ≤ (raise fs s).portU.returnDrops := by
  unfold raise
  generalize EventFlag.all.filter (fun f => f ∈ fs) = l
  induction l generalizing s with
  | nil => simp
  | cons f l ih =>
    rw [List.foldl_cons]
    obtain ⟨h1, h2⟩ := raiseOne_return f s
    obtain ⟨h3, h4⟩ := ih (raiseOne f s)
    exact ⟨h1.trans h3, BitVec.le_trans h2 h4⟩

/-- What the return lane takes depends on Port U's block and on the SOFT RESET alone. -/
theorem offerReturn_congr {a b : State} (hu : a.portU = b.portU) (hr : a.mgmt.softReset = b.mgmt.softReset) :
    (offerReturn a).portU = (offerReturn b).portU := by
  have hl : a.linked .u = b.linked .u := by unfold State.linked State.link; rw [hu]
  unfold offerReturn; rw [hl, hu, hr]
  by_cases hc : b.linked .u = true ∧ b.portU.tx = none ∧ b.mgmt.softReset.isDue = false
  · rw [if_pos hc, if_pos hc]; unfold startReturn; rw [hu]; split <;> simp_all
  · rw [if_neg hc, if_neg hc, hu]

theorem raiseOne_congr (f : EventFlag) {a b : State} (hu : a.portU = b.portU) (hm : a.mgmt = b.mgmt)
    (hp : a.pos.tp = b.pos.tp) :
    (raiseOne f a).portU = (raiseOne f b).portU ∧ (raiseOne f a).mgmt = (raiseOne f b).mgmt := by
  unfold raiseOne; rw [hm]; split
  · exact ⟨hu, hm⟩
  · dsimp only; split
    · unfold pushOwn setFlags; rw [hm, hu, hp]; dsimp only; split
      · exact ⟨offerReturn_congr rfl rfl, by simp⟩
      · exact ⟨rfl, rfl⟩
    · simp [setFlags, hu, hm]

/-- What raising flags does to the flags, ALERT and the return queue depends on the Management Engine, Port U's block and TP
alone (R181 to R183). -/
theorem raise_congr (fs : List EventFlag) {a b : State} (hu : a.portU = b.portU) (hm : a.mgmt = b.mgmt)
    (hp : a.pos.tp = b.pos.tp) :
    (raise fs a).portU = (raise fs b).portU ∧ (raise fs a).mgmt = (raise fs b).mgmt := by
  unfold raise
  generalize EventFlag.all.filter (fun f => f ∈ fs) = l
  induction l generalizing a b with
  | nil => exact ⟨hu, hm⟩
  | cons f l ih =>
    obtain ⟨h1, h2⟩ := raiseOne_congr f hu hm hp
    exact ih h1 h2 (by simpa using hp)

/-! ## Images and lanes -/

theorem imageOf_bit (n : Nat) (f : Nat → Bool) (hn : n ≤ 128) (i : Nat) :
    (imageOf n f).getLsbD i = (decide (i < n) && f i) := by
  induction n with
  | zero => simp [imageOf]
  | succ n ih =>
    unfold imageOf; split
    · rename_i h
      rw [BitVec.getLsbD_or, ih (by omega), BitVec.getLsbD_twoPow]
      by_cases h1 : i = n
      · subst h1; simp [h]; omega
      · have : n ≠ i := fun h => h1 h.symm
        simp [this]
        by_cases h2 : i < n <;> simp [h2] <;> omega
    · rename_i h
      rw [ih (by omega)]
      by_cases h1 : i = n
      · subst h1; simp [h]
      · by_cases h2 : i < n <;> simp [h2] <;> omega

theorem lane_get (u : BankUnit) (i : Fin 128) : u.lane i.val = u.lanes[i] := by
  simp [BankUnit.lane]

/-- The conditions that block a lane (R90). -/
theorem blocked_iff (k : Conditions) (u : BankUnit) (i : Nat) :
    blocked k u i = true ↔
      0 < (u.lane i).recoveryLeft ∨ u.desc.maxSlots ≤ (u.lane i).onRun
        ∨ (u.desc.kind = .coil ∧ (u.lane i).thermal = .cooling) ∨ u.inhibit = true
        ∨ (u.mode ≠ .run ∧ u.mode ≠ .drain) ∨ k.linked = false := by
  have hf : u.mode.firing = false ↔ (u.mode ≠ .run ∧ u.mode ≠ .drain) := by cases u.mode <;> simp [Mode.firing]
  unfold blocked; dsimp only
  rw [← hf]
  simp only [Bool.or_eq_true, Bool.and_eq_true, decide_eq_true_eq, Bool.not_eq_true', or_assoc]

theorem ejectAsks_iff (k : Conditions) (i : Nat) (w : Window) : ejectAsks k i w = true ↔ w.Asks k i := by
  simp [ejectAsks, Window.Asks, Window.demands, Window.asks, Window.covers, and_assoc]

theorem protectCovers_iff (k : Conditions) (i : Nat) (w : Window) : protectCovers k i w = true ↔ w.Guards k i := by
  simp [protectCovers, Window.Guards, Window.demands, Window.covers, and_assoc]

theorem conditions_eq (s : State) : conditions s = s.atBoundary := rfl

/-- What a candidate lane is (R92). -/
theorem candidate_some {k : Conditions} {u : BankUnit} {i : Nat} {c : Candidate} (h : candidate? k u i = some c) :
    c.lane = i ∧ blocked k u i = false ∧ holdLane k u i = false ∧ k.stalled = false
      ∧ u.windows.any (ejectAsks k i) = true ∧ c.wasOn = u.wasOn i := by
  unfold candidate? at h; split at h
  · cases h
  · rename_i hn; simp only [Bool.or_eq_true, not_or, Bool.not_eq_true, Bool.not_eq_true'] at hn
    cases h
    refine ⟨rfl, hn.1.1.1, hn.1.1.2, hn.1.2, ?_, rfl⟩
    have := hn.2; simpa using this

/-- The highest priority among windows, by what lies at or below it. -/
theorem le_topPriority (ws : List Window) (x : Nat) : x ≤ topPriority ws ↔ x = 0 ∨ ∃ w ∈ ws, x ≤ w.priority := by
  have : ∀ (ws : List Window) m, x ≤ ws.foldl (fun m w => max m w.priority) m ↔ x ≤ m ∨ ∃ w ∈ ws, x ≤ w.priority := by
    intro ws; induction ws with
    | nil => simp
    | cons w ws ih => intro m; rw [List.foldl_cons, ih]; simp; tauto
  rw [topPriority, this]; simp

/-- A lane after a composition (R95, R98). -/
theorem nextLanes_get (u : BankUnit) (image : Image) (i : Fin 128) :
    (nextLanes u image)[i] =
      if i.val < u.desc.lanes then
        nextThermal u.desc (image.getLsbD i) (nextRun u.desc (image.getLsbD i) (u.wasOn i) u.lanes[i])
      else u.lanes[i] := by
  simp [nextLanes]

/-! ## A boundary at a bank -/

/-- A FIRE frame handed to a busy lane waits, and an earlier one of its bank is replaced and counted. -/
theorem handFire_busy (n : BitVec 8) {s : State} (b : BankIx) (h1 : (s.link .d).state = .linked)
    (h2 : s.portD.tx ≠ none) :
    handFire b n s =
      { s with portD := { s.portD with
          fire := s.portD.fire.set b
            (some (fireFrame (s.bank b).desc.node n (s.bank b).desc.lanes (s.bank b).latched))
          fireOverruns :=
            if s.portD.fire[b].isSome then satInc s.portD.fireOverruns else s.portD.fireOverruns } } := by
  unfold handFire; rw [if_pos (show s.linked .d = true from decide_eq_true h1)]
  exact offerForward_held (.inr h2)

/-- A FIRE frame handed to a lane that is free, with no FIRE frame waiting, goes on the lane. -/
theorem handFire_free (n : BitVec 8) {s : State} (b : BankIx) (h1 : (s.link .d).state = .linked)
    (h2 : s.portD.tx = none) (h3 : ∀ c : BankIx, s.portD.fire[c] = none) :
    handFire b n s =
      { s with portD := { s.portD with
          tx := some (.own (fireFrame (s.bank b).desc.node n (s.bank b).desc.lanes (s.bank b).latched)) } } := by
  unfold handFire; rw [if_pos (show s.linked .d = true from decide_eq_true h1)]
  have hv : ∀ v : Vector (Option Frame) 4, v[b] = none → (v.set b.val none) = v := by
    intro v hv; apply Vector.ext; intro i hi; rw [Vector.getElem_set]; split
    · rename_i e; subst e; exact hv.symm
    · rfl
  refine (offerForward_fire (b := b) (f := fireFrame (s.bank b).desc.node n (s.bank b).desc.lanes (s.bank b).latched)
    (by exact h1) (by exact h2) (by simp) (by
      intro c hc
      have hne : b.val ≠ c.val := by have := Fin.lt_def.1 hc; omega
      simp [hne]; exact h3 c)).trans ?_
  simp [h3, hv]

/-- The bank that takes a boundary: the image latched, the slot turned. -/
theorem boundaryInUse_bank (b : BankIx) (n : BitVec 8) (s : State) :
    (boundaryInUse b n s).bank b = turnSlot (conditions s) { s.bank b with latched := (s.bank b).composed } := by
  unfold boundaryInUse; dsimp only
  have hk : conditions (handFire b n (s.setBank b { s.bank b with latched := (s.bank b).composed })) = conditions s := by
    simp [conditions]
  split <;> simp [hk]

/-- Its reports: an item id for each window that closed. -/
theorem boundaryInUse_bankHanded (b : BankIx) (n : BitVec 8) (s : State) :
    (boundaryInUse b n s).bankHanded b =
      { s.bankHanded b with
        retired := (s.bankHanded b).retired
          ++ ((s.bank b).windows.filter fun w => w.closed (conditions s).p).map (·.item) } := by
  unfold boundaryInUse; dsimp only
  have hk : conditions (handFire b n (s.setBank b { s.bank b with latched := (s.bank b).composed })) = conditions s := by
    simp [conditions]
  split <;> simp [hk]

/-- What a boundary does to the reports under way: those of the bank, and no other list. -/
theorem boundaryInUse_handed (b : BankIx) (n : BitVec 8) (s : State) :
    (boundaryInUse b n s).handed = { s.handed with banks := (boundaryInUse b n s).handed.banks } := by
  unfold boundaryInUse; dsimp only
  split <;> simp [State.setBankHanded]

/-- Step 5 of a boundary, in full (R101): the hold counts down, and one of a single slot ends. -/
theorem countHold_eq (u : BankUnit) :
    countHold u = { u with airLow := u.airLow - 1, holdEnd := u.holdEnd || decide (u.airLow = 1) } := by
  unfold countHold; split
  · rename_i h; cases u; simp_all
  · rfl

/-- The report of the track's count touches no other list (R35). -/
theorem reportOccupancy_handed (s : State) :
    (reportOccupancy s).handed = { s.handed with occupancy := (reportOccupancy s).handed.occupancy } := by
  unfold reportOccupancy; (repeat' split) <;> rfl

/-- The count that a flush reports (R33, R35). -/
theorem flushLine_occupancy {s : State} (h : s.mgmt.line.occLow < s.mgmt.line.occHigh) :
    (flushLine s).handed.occupancy = s.handed.occupancy ++ [false] := by
  simp [flushLine, reportOccupancy]; rw [if_neg (by omega)]

/-- A boundary at one bank leaves the other banks and their reports alone. -/
theorem boundaryInUse_ne (n : BitVec 8) (s : State) {b c : BankIx} (h : c ≠ b) :
    (boundaryInUse b n s).bank c = s.bank c ∧ (boundaryInUse b n s).bankHanded c = s.bankHanded c := by
  unfold boundaryInUse; dsimp only
  split <;> simp [State.bank_setBank_ne _ h, State.bankHanded_setBankHanded_ne _ h]

/-! ## AIR reports -/

/-- The report of the AIR combination, in full. -/
theorem reportAir_self (b : BankIx) (s : State) :
    (reportAir b s).bank b = { s.bank b with airReport := (s.bank b).holdsFeeder }
      ∧ (reportAir b s).bankHanded b =
          { s.bankHanded b with
            air := (s.bankHanded b).air
              ++ (if (s.bank b).holdsFeeder = (s.bank b).airReport then [] else [(s.bank b).holdsFeeder]) } := by
  unfold reportAir; dsimp only; split
  · rename_i h; simp [h]
  · simp

theorem reportAir_ne (s : State) {b c : BankIx} (h : c ≠ b) :
    (reportAir b s).bank c = s.bank c ∧ (reportAir b s).bankHanded c = s.bankHanded c := by
  unfold reportAir; dsimp only
  split <;> simp [State.bank_setBank_ne _ h, State.bankHanded_setBankHanded_ne _ h]

/-! ## The Item Track and the planning verdicts -/

theorem idFree_iff (items : List Item) (id : BitVec 16) : idFree items id = true ↔ id ∉ items.map (·.id) := by
  simp [idFree]

theorem isListed_iff (p : Plan) : p.isListed = true ↔ ∃ k q, p = .listed k q := by
  cases p <;> simp [Plan.isListed]

theorem any_banks_iff (f : BankIx → Bool) : BankIx.all.any f = true ↔ ∃ b, f b = true := by
  simp [BankIx.all, Fin.exists_fin_succ]

/-! ## The ports -/

/-- When a port takes frames (R160). -/
theorem takesFrames_iff (s : State) (p : PortId) :
    takesFrames s p = true ↔
      (s.link p).state = .linked
        ∨ ((s.link p).state = .proving ∧ (s.link p).locked = true ∧ ∀ e, s.proving.run ≠ some ⟨p, .check, e⟩) := by
  have hc : checkOwns s p = false ↔ ∀ e, s.proving.run ≠ some ⟨p, .check, e⟩ := by
    unfold checkOwns
    cases h : s.proving.run with
    | none => simp
    | some r =>
      rcases r with ⟨p', ro, e'⟩
      simp only [Bool.and_eq_false_iff, decide_eq_false_iff_not, ne_eq, Option.some.injEq, ProvingRun.mk.injEq, not_and]
      constructor
      · rintro (h | h) e h1 h2 <;> contradiction
      · intro h; by_cases h1 : p' = p
        · right; intro h2; exact h e' h1 h2 rfl
        · left; exact h1
  unfold takesFrames
  cases h : (s.link p).state <;> simp [hc]
  rw [and_comm]

theorem cutsRelayed_iff (tx : Option TxFrame) : (tx.map TxFrame.isRelayed).getD false = true ↔ cutsRelayed tx := by
  unfold cutsRelayed; cases tx with
  | none => simp
  | some f => cases f <;> simp [TxFrame.isRelayed]

/-- A field of one byte is that byte. -/
theorem fld_one (bs : List Byte) (off : Nat) (h : off < bs.length) : fld bs off 1 = (bs.getD off 0).toNat := by
  unfold fld be
  rw [List.take_one_drop_eq_of_lt_length h]; simp [h]

end Sys2Proof.Machine
end

