-- ==== Sys2Proof/WellFormed.lean ====
section
/-! DEFINITION. What a command must look like to stand for an event: a frame has at least one byte, and a run of raw
proving bits at least one bit. The machine is total on ill-formed commands all the same (log 29). -/

namespace Sys2Proof

/-- A frame is "a run of symbols between two stretches of fill" (spec 08, section 8.4): it is not empty. -/
def frameWf (bytes : List Byte) : Bool := !bytes.isEmpty

/-- A checker step takes at least one raw bit (R167). -/
def bitsWf (bits : List Bool) : Bool := !bits.isEmpty

/-- Well-formedness of a command; every other command is determined by its constructor and finite operands. -/
def Instr.wf : Instr → Bool
  | .frameReceived _ bytes => frameWf bytes
  | .checkerSync bits => bitsWf bits
  | .checkerMismatch bits => bitsWf bits
  | .powerOn .. => true
  | .forwardCount => true
  | .reverseCount => true
  | .illegalTransition => true
  | .binClose => true
  | .slotBoundary .. => true
  | .airLowHoldEnd .. => true
  | .stationTick => true
  | .emergencyStop => true
  | .encoderFault => true
  | .beltReversal => true
  | .detectFrame => true
  | .detectRecord => true
  | .burdenContribution => true
  | .ringAdvance => true
  | .drainTimeout => true
  | .retirementReport .. => true
  | .trackEmptyReport => true
  | .flush => true
  | .bankModeChange .. => true
  | .stationModeChange => true
  | .holdReasonReport .. => true
  | .portDLinked => true
  | .blindSpanBegin => true
  | .blindSpanEnd => true
  | .statusFrame .. => true
  | .signalDetected .. => true
  | .receiverLocked .. => true
  | .partnerReadyChange .. => true
  | .signalLoss .. => true
  | .monitorWindowClose .. => true
  | .portDFrameSent => true
  | .portUFrameSent => true
  | .provingExpiry => true
  | .provingExpiryReport => true
  | .requestArrival => true
  | .unknownRequest => true
  | .readLine => true
  | .readStation => true
  | .readBand => true
  | .readBank => true
  | .readRecipe => true
  | .readTrack => true
  | .readWindows => true
  | .writeLine => true
  | .writeStation => true
  | .writeBand => true
  | .writeBank => true
  | .writeRecipe => true
  | .writeTrack => true
  | .writeWindows => true
  | .start => true
  | .stop => true
  | .prove => true
  | .clearFault .. => true
  | .softReset => true
  | .softResetPerformed .. => true
  | .selectSet => true
  | .holdFeed => true
  | .releaseFeed => true
  | .readStatus => true
  | .readCounters => true
  | .clearCounters => true
  | .clearEvents => true
  | .setMask => true
  | .codeError .. => true
  | .resetnAsserted => true

end Sys2Proof
end

