-- ==== Sys2Proof/Tests/Slice0.lean ====
section
/-! SUPPORT. Tests: ill-formed commands refused, the spec's worked figures, each command on a small state, and for every
statement with hypotheses states and operands that meet them, clause by clause. -/

namespace Sys2Proof.Tests

open Sys2Proof Sys2Proof.Machine

/-! ## Well-formedness -/

theorem test_wf_refuses_empty_frame : Instr.wf (.frameReceived .u []) = false := by decide
theorem test_wf_refuses_no_sync_bits : Instr.wf (.checkerSync []) = false := by decide
theorem test_wf_refuses_no_mismatch_bits : Instr.wf (.checkerMismatch []) = false := by decide
theorem test_wf_admits : Instr.wf (.frameReceived .d [1]) = true ∧ Instr.wf .flush = true := by decide

/-! ## Figures of the spec -/

/-- The table of R1, row by row. -/
theorem test_encoder_table :
    decodeSample ⟨false, false⟩ ⟨true, false⟩ = some .forward ∧ decodeSample ⟨true, false⟩ ⟨true, true⟩ = some .forward
      ∧ decodeSample ⟨true, true⟩ ⟨false, true⟩ = some .forward
      ∧ decodeSample ⟨false, true⟩ ⟨false, false⟩ = some .forward
      ∧ decodeSample ⟨false, false⟩ ⟨false, true⟩ = some .reverse
      ∧ decodeSample ⟨false, false⟩ ⟨true, true⟩ = some .illegal
      ∧ decodeSample ⟨true, false⟩ ⟨true, false⟩ = none := by decide

/-- "comparing across the wrap" (section 1.6). -/
theorem test_compare_across_the_wrap :
    Machine.sdiff 296 4294967000 = 592 ∧ Machine.sdiff 296 (ahead 4294967000 6) = 586
      ∧ Machine.sdiff 296 (ahead 290 6) = 0 := by decide

/-- The table of R68. -/
theorem test_lead_figures :
    (∀ x ∈ [(4500, 192, 54), (4500, 200, 56), (4500, 0, 0), (40, 200, 1), (40, 199, 0), (20000, 65535, 81919)],
      leadCounts { BankEntry.default with leadUs := x.1 } x.2.1 = x.2.2) := by decide

/-- "mapping onto three banks" (section 4.4). -/
theorem test_lane_map_figures :
    let b0 := { BankEntry.default with sensorsPerLane := 2, spread := 1 }
    let b1 := { BankEntry.default with laneBase := 96, sensorsPerLane := 3, lanes := 32, spread := 1 }
    let b2 := { BankEntry.default with lanes := 64, spread := 2 }
    (actLo b0 40, actHi b0 45) = (19, 23) ∧ (actLo b0 190, actHi b0 191) = (94, 96)
      ∧ uncovered b1 40 45 = true ∧ uncovered b1 94 98 = false ∧ (actLo b1 94, actHi b1 98) = (0, 1)
      ∧ (actLo b1 150, actHi b1 160) = (17, 22) ∧ (actLo b1 186, actHi b1 191) = (29, 31)
      ∧ (actLo b2 60, actHi b2 70) = (58, 63) ∧ uncovered b2 64 70 = true := by decide

/-- "the FIRE frame of the worked composition" (section 10.3): lanes 19 to 23 of 128 are byte 0xF8, slot 41. -/
theorem test_fire_frame_of_the_worked_composition :
    (fireFrame 17 41 128 (imageOf 128 fun i => decide (19 ≤ i ∧ i ≤ 23))).payload =
      [41, 128, 0, 0, 0xF8, 0, 0, 0, 0, 0, 0, 0, 0, 0, 0, 0, 0, 0]
      ∧ ((fireFrame 17 41 128 0).wire 1).length = 24 := by decide

/-- The polynomial and start value of R160, on the nine bytes "123456789". -/
theorem test_crc : crc16 [0x31, 0x32, 0x33, 0x34, 0x35, 0x36, 0x37, 0x38, 0x39] = 0xAEE7#16 := by decide +kernel

/-! ## A running line

One AIR bank in use with one EJECT window of item 7 in its list; belt at 100 counts, 2 counts in each bin; both ports
LINKED; RUN taken by every block. -/

def tEntry : BankEntry :=
  { BankEntry.default with
    kind := .air, node := 17, lanes := 4, laneBase := 8, reach := 500, pre := 4, post := 4, minSlots := 2, budget := 4
    airFeedHold := true }

def tWindow : Window := newWindow 7 .eject 3 ⟨0, 2, 90, 150, false⟩

def tItem : Item :=
  { id := 7, entryPos := 50, laneLo := 8, laneHi := 10, centroid := 9, centroidSent := false, leadPos := 40
    trailPos := 92, cls := 1, area := 300, confidence := 200, tag := none, touching := false, atEdge := false
    clipped := false, recipeSet := 0, rule := 48, pendingBanks := 1 }

def tLink : Link := { Link.powerOn with state := .linked, locked := true, partnerReady := true, signal := true }

def tBank : BankUnit :=
  { BankUnit.powerOn with
    desc := tEntry, mode := .run, windows := [tWindow], counters := { BankCounters.zero with created := 1 } }

def tRun : State :=
  { State.reset with
    pos := { State.reset.pos with
      e := 100, tp := 100, history := Vector.replicate 16 2, w := 32, stall := .moving, c := 1 }
    track := [tItem]
    banks := State.reset.banks.set 0 tBank
    station := { State.reset.station with
      mode := .run, portULinked := true, holds := ⟨false, false, false, false, false, false⟩, command := .release }
    mc := ⟨.run, .none, 0, none, none⟩
    portU := { State.reset.portU with link := tLink }
    portD := { State.reset.portD with link := tLink } }

/-- The line with reports handed to a bank. -/
def tHanded (h : BankHanded) : State := tRun.setBankHanded 0 h

/-- The line with a frame on Port D's forward lane and a FIRE frame of bank 0 waiting behind it. -/
def tBusy : State :=
  { tRun with portD := { tRun.portD with tx := some (.relayed []), fire := tRun.portD.fire.set 0 (some ⟨17, .fire, []⟩) } }

/-- The line with a proving run of a port in progress. -/
def tProving (p : PortId) (role : ProvingRole) (e : ProvingEngine) : State :=
  { tRun.setLink p { tLink with state := .proving } with
    proving := ⟨some ⟨p, role, e⟩, some ⟨p, role, 5, 0, false, .running⟩⟩ }

/-- The line with a request at the head of the queue. -/
def tAsk (payload : List Byte) (s : State) : State := { s with mgmt := { s.mgmt with queue := [⟨2, payload⟩] } }

def tRecord : Detection := ⟨8, 10, 90, 96, 1, 300, 200, none, none, false, false⟩

/-- The line with one record held at the Intake. -/
def tHeld (r : Detection) (s : State) : State := { s with intake := { s.intake with held := [[r]] } }

/-! ## The hypotheses of each statement are met -/

/-- ResetAssertedHoldsThePart. -/
theorem test_witness_ResetAsserted :
    ({ tRun with inReset := true } : State).inReset = true ∧ Instr.flush ≠ .resetnAsserted
      ∧ ∀ a e l, Instr.flush ≠ .powerOn a e l := by
  refine ⟨rfl, by decide, fun a e l h => by cases h⟩

/-- EveryCommandAnswersNext, TrackPositionNeverDecreases and the relations that every step keeps: a step of the line. -/
theorem test_witness_steps :
    tRun.pending = [] ∧ (∃ t, exec .forwardCount tRun = .next t)
      ∧ (∃ t, step { tRun with pending := [.forwardCount] } = .next t) := ⟨rfl, ⟨_, rfl⟩, ⟨_, rfl⟩⟩

theorem test_witness_AlertInv : AlertInv tRun := by unfold AlertInv; decide
theorem test_witness_FeederInv : FeederInv tRun := by unfold FeederInv; decide
theorem test_witness_CauseInv : CauseInv tRun := by unfold CauseInv; decide
theorem test_witness_BurdenInv : BurdenInv tRun := by unfold BurdenInv; decide
theorem test_witness_SpeedInv : SpeedInv tRun := by unfold SpeedInv; decide
theorem test_witness_RotorInv : RotorInv tRun := by unfold RotorInv; decide
theorem test_witness_BalanceInv : BalanceInv tRun := by unfold BalanceInv; decide
theorem test_witness_ImageInv : ImageInv tRun := by unfold ImageInv; decide

theorem test_witness_QueueInv : QueueInv tRun := by
  refine ⟨by decide, by decide, by decide, by decide, by decide, fun f h => ?_⟩
  cases (show SoftReset.none = .due (some f) from h)

theorem test_witness_FreeLaneInv : FreeLaneInv tRun := by
  refine ⟨by decide, fun _ _ => ⟨by decide, by decide, by decide, by decide⟩, by decide, fun _ _ _ => by decide,
    fun run h => ?_⟩
  cases (show (none : Option ProvingRun) = some run from h)

theorem test_witness_LaneInv : LaneInv tRun := by
  intro b
  have hl : ∀ b : BankIx, (tRun.bank b).lanes = Vector.replicate 128 .rest ∧ (tRun.bank b).desc.inRange = true := by
    decide +kernel
  refine ⟨(hl b).2, fun l h => ?_⟩
  rw [(hl b).1] at h
  have hr : l = .rest := by simpa using h
  subst hr
  decide

theorem test_witness_TrackInv : TrackInv tRun := by
  have ho : ∀ b : BankIx, tRun.owed b = if b = 0 then [7] else [] := by decide
  refine ⟨by decide, by decide, by decide, by decide, fun b id => ?_⟩
  rw [ho b]
  have ht : tRun.track = [tItem] := rfl
  rw [ht]
  have hp : ∀ b : BankIx, tItem.pendingBanks.getLsbD b.val = decide (b = 0) := by decide
  have hi : tItem.id = 7 := rfl
  by_cases hb : b = 0
  · subst hb; simp [hi]; constructor
    · rintro rfl; exact ⟨rfl, by decide⟩
    · rintro ⟨h, _⟩; exact h.symm
  · simp only [hb, if_false, List.not_mem_nil, false_iff]
    rintro ⟨i, hi', _, h⟩
    simp only [List.mem_singleton] at hi'
    subst hi'
    rw [hp b] at h
    simp [hb] at h

/-- RaisingAFlagQueuesOneNotice: a set flag; a clear one masked, admitted with room and admitted with the queue full. -/
theorem test_witness_Raising :
    let full := List.replicate 8 (TxFrame.relayed [])
    (({ tRun with mgmt := { tRun.mgmt with flags := 1 } } : State).mgmt.flags.getLsbD EventFlag.trackFull.num = true)
      ∧ (tRun.mgmt.flags.getLsbD EventFlag.fault.num = false)
      ∧ (({ tRun with mgmt := { tRun.mgmt with mask := 0 } } : State).mgmt.mask.getLsbD EventFlag.fault.num = false)
      ∧ (tRun.mgmt.mask.getLsbD EventFlag.fault.num = true ∧ full.tail.length < 8 ∧ 8 ≤ full.length) := by decide

/-- R183: two flags of one event, named in either order, queue in table order; the first goes on the free lane. -/
theorem test_raise_in_table_order :
    (raise [.fault, .encoder] tRun).portU.tx = some (.own ⟨0, .notice, [11, 0, 0, 0, 100]⟩)
      ∧ (raise [.fault, .encoder] tRun).portU.queue = [.own ⟨0, .notice, [14, 0, 0, 0, 100]⟩] := by decide

/-- R183: a flag raised inside a command sends its NOTICE, here AIR_LOW (7) at a STATUS frame. -/
theorem test_flag_of_a_command_sends_its_notice :
    ∃ t, exec (.statusFrame 0) (tHanded ⟨[], [], [⟨3, true⟩], [], []⟩) = .next t
      ∧ t.portU.tx = some (.own ⟨0, .notice, [7, 0, 0, 0, 100]⟩) := ⟨_, rfl, by decide⟩

/-- R187: destination 62, source 61, kind 3 with flags 0, length 1. -/
theorem test_wire_header : ((⟨62, .answer, [9]⟩ : Frame).wire 61).take 5 = [62, 61, 3, 1, 9] := by decide +kernel

/-- AnswersJoinTheReturnQueue: 7 and 8 frames waiting; a payload of no byte, of the tag alone, of both. -/
theorem test_witness_Answers :
    (List.replicate 7 (TxFrame.relayed [])).length < 8 ∧ 8 ≤ (List.replicate 8 (TxFrame.relayed [])).length
      ∧ (answered ⟨2, []⟩ [] (.refuse .range) tRun).portU.tx = some (.own ⟨2, .answer, [0, 0, 3]⟩)
      ∧ (answered ⟨2, [9]⟩ [] (.refuse .range) tRun).portU.tx = some (.own ⟨2, .answer, [9, 0, 3]⟩)
      ∧ (answered ⟨2, [9, 3]⟩ [] .done tRun).portU.tx = some (.own ⟨2, .answer, [9, 3, 0]⟩) := by decide

/-- ChangesOfModeAreHandedOn, R108: lane 0 of bank 0 is ON and in hold, a boundary and an older change of mode wait. After a
flush alone the boundary keeps the lane ON; after entry into FAULT it finds FAULT, and is all-off. -/
theorem test_flush_takes_its_mode :
    let s := (tHanded ⟨[5], [.run], [], [], []⟩).setBank 0
      { tBank with composed := 1, lanes := tBank.lanes.set 0 { Lane.rest with onRun := 1, holdLeft := 1 } }
    let f := faultEntry .encoder s
    s.inReset = false ∧ (s.bank 0).desc.kind ≠ .disabled ∧ (s.bankHanded 0).boundaries = 5 :: []
      ∧ (∃ u, exec (.slotBoundary (.bank 0)) (flushLine s) = .next u ∧ (u.bank 0).composed = 1)
      ∧ (f.bank 0).mode = .fault ∧ (f.bankHanded 0).modes = [] ∧ (f.bank 0).lanes[0].holdLeft = 0
      ∧ ∃ u, exec (.slotBoundary (.bank 0)) f = .next u ∧ (u.bank 0).composed = 0 ∧ (u.bank 0).latched = 0 :=
  ⟨rfl, by decide, rfl, ⟨_, rfl, by decide +kernel⟩, by decide +kernel, by decide +kernel, by decide +kernel, _, rfl,
    by decide +kernel, by decide +kernel⟩

/-- DriveFramesAndTheFeederCommand: Port D LINKED and not, and a command for an empty and a non-empty set. -/
theorem test_witness_DriveFrames :
    (tRun.link .d).state = .linked ∧ (State.reset.link .d).state ≠ .linked
      ∧ (FeederCommand.hold = .hold ↔ (false || false || false || false || false || true) = true)
      ∧ (FeederCommand.release = .hold ↔ (false || false || false || false || false || false) = true) := by decide

/-- FramesCarryWhatTheyAreBuiltFrom: 1 and 128 lanes with the last lane of each; a record of each size and one byte short of
it; two records and nine; a frame to node 62 of a full payload. -/
theorem test_witness_Frames :
    (1 ≤ 1 ∧ 1 ≤ 128 ∧ 0 < 8 * ((1 + 7) / 8)) ∧ (1 ≤ 128 ∧ 128 ≤ 128 ∧ 127 < 8 * ((128 + 7) / 8))
      ∧ (∀ x ∈ [((0 : Byte), 16, 16), (1, 17, 17), (2, 16, 20), (15, 17, 21)], ∃ r : Detection,
          parseRecord (x.1 :: List.replicate (x.2.2 - 1) 7) = some (r, [])
            ∧ parseRecord (x.1 :: List.replicate (x.2.2 - 2) 7) = none
            ∧ x.2.1 = 16 + (if x.1.getLsbD 0 then 1 else 0) ∧ x.2.2 = x.2.1 + (if x.1.getLsbD 1 then 4 else 0)
            ∧ r.laneLo = 7 ∧ r.centroid.isSome = x.1.getLsbD 0 ∧ r.tag.isSome = x.1.getLsbD 1
            ∧ r.touching = x.1.getLsbD 2 ∧ r.atEdge = x.1.getLsbD 3)
      ∧ (detectRecords (2 :: List.replicate 32 0)).map (·.length) = some 2
      ∧ detectRecords (9 :: List.replicate 144 0) = none
      ∧ (⟨62, .answer, List.replicate 238 0⟩ : Frame).dest ≠ 63 ∧ FrameKind.answer ≠ .detect
      ∧ (List.replicate 238 (0 : Byte)).length ≤ 238 := by
  refine ⟨by decide, by decide, ?_, by decide, by decide, by decide, by decide, by decide +kernel⟩
  intro x hx
  simp only [List.mem_cons, List.not_mem_nil, or_false] at hx
  rcases hx with rfl | rfl | rfl | rfl <;> exact ⟨_, rfl, by decide, by decide, by decide, rfl, rfl, rfl, rfl, rfl⟩

/-- EncoderTransitionsMoveTheBelt: E at TP, E behind TP, a depth at and beyond reverse_limit. -/
theorem test_witness_Encoder :
    tRun.inReset = false ∧ tRun.pos.e = tRun.pos.tp
      ∧ (let s := { tRun with pos := { tRun.pos with e := 99 } }; s.pos.e ≠ s.pos.tp)
      ∧ (let s := { tRun with pos := { tRun.pos with tp := 611 } };
        (s.pos.tp - (s.pos.e - 1)).toNat ≤ s.mgmt.line.reverseLimit)
      ∧ (let s := { tRun with pos := { tRun.pos with tp := 612 } };
        s.mgmt.line.reverseLimit < (s.pos.tp - (s.pos.e - 1)).toNat) := by decide

/-- BinCloseSetsSpeedStallAndCounts: a history that keeps MOVING, and one that stalls. -/
theorem test_witness_BinClose :
    let h := Vector.ofFn fun i : Fin 16 => if i.val = 0 then 0 else 2
    (∀ i : Fin 16, h[i] = if i.val = 0 then tRun.pos.bin else tRun.pos.history.toList.getD (i.val - 1) 0)
      ∧ (StallState.moving = .stalled ↔ min h.toList.sum 65535 < tRun.mgmt.line.stallW)
      ∧ (StallState.stalled = .stalled ↔ min h.toList.sum 65535 < 31) := by decide

/-- DetectFrameIsHeldOrDropped: 3 and 4 frames held. -/
theorem test_witness_DetectFrame :
    let s := { tRun with handed := { tRun.handed with detects := [[tRecord]] } }
    s.inReset = false ∧ s.handed.detects = [tRecord] :: [] ∧ (List.replicate 3 [tRecord]).length < 4
      ∧ 4 ≤ (List.replicate 4 [tRecord]).length := by decide

/-- DetectRecordRefusals: a record outside RUN; each malformed form at its edge; one count too stale; one count too far
ahead. -/
theorem test_witness_DetectRefusals :
    let s := tHeld tRecord tRun
    (s.inReset = false ∧ s.intake.held = (tRecord :: []) :: []) ∧ State.reset.mc.mode ≠ .run ∧ s.mc.mode = .run
      ∧ (9 < 10 ∧ 191 < 192 ∧ Machine.sdiff 95 96 < 0)
      ∧ ¬ (tRecord.laneHi < tRecord.laneLo ∨ 191 < tRecord.laneLo ∨ Machine.sdiff tRecord.trailPos tRecord.leadPos < 0)
      ∧ (s.mgmt.line.staleLimit : Int) < Machine.sdiff s.pos.tp (100 - 65537)
      ∧ Machine.sdiff s.pos.tp 357 ≤ (s.mgmt.line.staleLimit : Int)
      ∧ (s.mgmt.line.skewLimit : Int) < Machine.sdiff 357 s.pos.tp := by decide

/-- The rule that tells every bank to eject what matches it. -/
def tRule : Rule := { Rule.default with enabled := true, result := ⟨Vector.replicate 4 .eject, 3, 2⟩ }

def tSet (i : Fin 48) : Classifier :=
  { State.reset.cls with
    sets := State.reset.cls.sets.set 0 { RecipeSet.default with rules := RecipeSet.default.rules.set i tRule } }

/-- DetectRecordEntersOrPasses: the line takes the record, with a LISTED verdict at bank 0 under a rule and none under the
default rule; tracks of 1,023 and 1,024 items; each verdict at the edge where it meets the next; counts on both sides of
occ_high and of occ_low; and a record whose lanes are clamped and whose length is clipped. -/
theorem test_witness_DetectRecord :
    let s := tHeld tRecord { tRun with cls := tSet 47 }
    let w := s.cls.winner 1 300 200 9
    (s.inReset = false ∧ s.mc.mode = .run ∧ Machine.sdiff s.pos.tp 96 ≤ (s.mgmt.line.staleLimit : Int)
        ∧ Machine.sdiff 96 s.pos.tp ≤ (s.mgmt.line.skewLimit : Int))
      ∧ w = ⟨0, 47, tRule.result⟩
      ∧ plan tEntry w.result.actions[0] 8 10 90 96 100 32 1 1 = .listed .eject ⟨0, 2, 586, 600, false⟩
      ∧ plan tEntry w.result.actions[0] 8 10 90 96 100 32 1 512 = .dropped
      ∧ plan tEntry w.result.actions[0] 8 10 90 96 599 32 1 512 = .late
      ∧ plan tEntry w.result.actions[0] 8 10 90 96 598 32 1 511 = .listed .eject ⟨0, 2, 586, 600, true⟩
      ∧ plan tEntry w.result.actions[0] 5 7 90 96 100 32 1 1 = .uncovered
      ∧ plan tEntry .none 8 10 90 96 100 32 1 1 = .none
      ∧ plan BankEntry.default .eject 8 10 90 96 100 32 1 1 = .none
      ∧ (List.replicate 1023 tItem).length < 1024 ∧ 1024 ≤ (List.replicate 1024 tItem).length
      ∧ (s.mgmt.line.occHigh ≤ 895 + 1 ∧ ¬ s.mgmt.line.occHigh ≤ 894 + 1 ∧ 639 + 1 ≤ s.mgmt.line.occLow
          ∧ ¬ 640 + 1 ≤ s.mgmt.line.occLow)
      ∧ (let r := { tRecord with laneHi := 192, trailPos := 90 + 4097 };
        191 < r.laneHi ∧ (s.mgmt.line.maxItemLen : Int) < Machine.sdiff r.trailPos r.leadPos
          ∧ ¬ (r.laneHi < r.laneLo ∨ 191 < r.laneLo ∨ Machine.sdiff r.trailPos r.leadPos < 0)) := by
  decide +kernel

/-- FirstMatchingRuleWins: the last rule is the first that matches; no rule matches. -/
theorem test_witness_FirstMatch :
    (∀ j : Fin 48, j < 47 → (tSet 47).sets[0].rules[j].matches 1 300 200 9 = false)
      ∧ (tSet 47).sets[0].rules[47].matches 1 300 200 9 = true
      ∧ (∀ j : Fin 48, State.reset.cls.sets[0].rules[j].matches 1 300 200 9 = false) := by decide

/-- EntriesTakeAFreeIdAndTheirPlace: a full track; a next id that is taken, one that is free, and a search past 65,535; a
window between a window at its own open position and one ahead of it. -/
theorem test_witness_Entries :
    (List.replicate 1024 tItem).length ≤ 1024 ∧ (8 ∉ [tItem].map (·.id)) ∧ freeId [tItem] 1 7 = 8
      ∧ freeId [{ tItem with id := 65535 }, { tItem with id := 0 }] 2 65535 = 1
      ∧ (∀ x ∈ [tWindow], Machine.sdiff x.openPos tWindow.openPos ≤ 0)
      ∧ (∀ x ∈ [{ tWindow with openPos := 91 }], 0 < Machine.sdiff x.openPos tWindow.openPos) := by
  refine ⟨by decide +kernel, by decide, by decide, by decide, by decide, by decide⟩

/-- RetirementReportsLeaveTheTrack: the last bank of an item, one of two banks, and a bank that owes nothing; counts at
occ_high, at occ_low and between. -/
theorem test_witness_Retirement :
    let s := tHanded ⟨[], [], [], [7], []⟩
    (s.inReset = false ∧ (s.bankHanded 0).retired = 7 :: [] ∧ (s.track.map (·.id)).Nodup
        ∧ s.mgmt.line.occLow < s.mgmt.line.occHigh)
      ∧ (∃ i ∈ s.track, i.id = 7 ∧ i.pendingBanks = BitVec.twoPow 4 0)
      ∧ (∃ i ∈ [{ tItem with pendingBanks := 3 }], i.id = 7 ∧ i.pendingBanks.getLsbD 0 = true
          ∧ i.pendingBanks ≠ BitVec.twoPow 4 0)
      ∧ (∀ i ∈ [{ tItem with pendingBanks := 2 }], i.id = 7 → i.pendingBanks.getLsbD 0 = false)
      ∧ (896 ≤ 896 ∧ 640 ≤ 640 ∧ 640 < 641 ∧ 895 < 896) := by decide

/-- LaneMapOfAPiece and LeadAndWindowPositions: a piece at each edge of the bank's stretch; the largest lead, length and
margins. -/
theorem test_witness_Planner :
    (1 ≤ tEntry.sensorsPerLane ∧ 1 ≤ tEntry.lanes) ∧ uncovered tEntry 5 8 = false ∧ uncovered tEntry 11 12 = false
      ∧ uncovered tEntry 12 13 = true ∧ uncovered tEntry 6 7 = true
      ∧ (20000 ≤ 20000 ∧ 65535 ≤ 65535 ∧ 1023 ≤ 1023 ∧ 0 ≤ Machine.sdiff 65545 10 ∧ Machine.sdiff 65545 10 ≤ 65535)
      ∧ 0 ≤ Machine.sdiff 10 10 := by decide

/-- The statements about SLOT_BOUNDARY: a bank in use and a DISABLED one with a boundary handed to them, Port D LINKED with
its lane free and busy and not LINKED, a window that closes at P and one that stays. -/
theorem test_witness_Boundary :
    let s := tHanded ⟨[5], [], [], [], []⟩
    (s.inReset = false ∧ (s.bank 0).desc.kind ≠ .disabled ∧ (s.bankHanded 0).boundaries = 5 :: [])
      ∧ (let r := tRun.setBankHanded 1 ⟨[5], [], [], [], []⟩;
        r.inReset = false ∧ (r.bank 1).desc.kind = .disabled ∧ (r.bankHanded 1).boundaries = 5 :: [])
      ∧ (s.link .d).state = .linked ∧ (State.reset.link .d).state ≠ .linked
      ∧ (s.portD.tx = none ∧ (∀ c : BankIx, s.portD.fire[c] = none) ∧ s.portD.drive = [] ∧ s.portD.relay = [])
      ∧ (tBusy.portD.tx ≠ none ∧ tBusy.portD.fire[0].isSome = true)
      ∧ Machine.sdiff 101 (s.pos.tp + BitVec.ofNat 32 s.pos.c) ≤ 0
      ∧ 0 < Machine.sdiff 102 (s.pos.tp + BitVec.ofNat 32 s.pos.c)
      ∧ tWindow.demands (conditions s) = true := by decide

/-- CandidatesAreGrantedByRank: lane 0 contends, and is granted; with no budget it is denied and counted; a hold lane takes
of the capacity; a PROTECT window drops it, and only one of the same priority or a higher one under BY_PRIORITY. -/
theorem test_witness_Candidates :
    let k := conditions tRun
    let guard (priority : Nat) := { tWindow with kind := .protect, priority := priority }
    (tBank.desc.lanes ≤ 128 ∧ (⟨0, false, 3, 0⟩ : Candidate) ∈ contenders k tBank)
      ∧ (compose k tBank).composed.getLsbD 0 = true
      ∧ (let u := { tBank with desc := { tEntry with budget := 0 } };
        (compose k u).composed = 0 ∧ (compose k u).counters.budgetDenied = 3)
      ∧ (let u := { tBank with lanes := tBank.lanes.set 0 { Lane.rest with onRun := 1, holdLeft := 1 } };
        holdLane k u 0 = true ∧ candidate? k u 0 = none ∧ capacity k u = 3)
      ∧ contenders k { tBank with windows := [tWindow, guard 0] } = []
      ∧ (let u (priority : Nat) :=
          { tBank with desc := { tEntry with conflict := .byPriority }, windows := [tWindow, guard priority] };
        (contenders k (u 3)).length = 0 ∧ (contenders k (u 2)).length = 3) := by decide

/-- BoundaryCountsDemandingWindows: lane 0 is dropped in a conflict; under TRUNCATE a run of 1 of max_slots 1 ends. -/
theorem test_boundary_denies_and_truncates :
    (let u := { tBank with windows := [tWindow, { tWindow with kind := .protect, hi := 0 }] };
      (compose (conditions tRun) u).windows.map (fun w => (w.protectDenied, w.truncated))
        = [(true, 0), (false, 0)])
      ∧ (let u := { tBank with desc := { tEntry with minSlots := 1, maxSlots := 1, longPolicy := .truncate } };
        (compose (conditions tRun) u).windows.map (·.truncated) = [7]) := by decide

/-- RunStateFollowsTheImage and HeatFollowsTheImage: the boundary composes lane 0 ON and lane 3 OFF. -/
theorem test_boundary_composes :
    ∃ t, exec (.slotBoundary (.bank 0)) (tHanded ⟨[5], [], [], [], []⟩) = .next t
      ∧ (t.bank 0).composed.getLsbD 0 = true ∧ (t.bank 0).composed.getLsbD 3 = false
      ∧ ((t.bank 0).lanes[0]).onRun = 1 ∧ ((t.bank 0).lanes[0]).holdLeft = 1 :=
  ⟨_, rfl, by decide, by decide, by decide, by decide⟩

/-- BoundaryLatchesAndSends and SlotClockAndDisabledBanks, R101: a hold of one slot ends at the boundary, one of two does not, at
a bank in use and at a DISABLED one; AIR_LOW_HOLD_END then withdraws the report. -/
theorem test_hold_ends_at_a_boundary :
    let s (b : BankIx) (n : Nat) := (tRun.setBankHanded b ⟨[5], [], [], [], []⟩).setBank b
      { tRun.bank b with airLow := n, airReport := true }
    (∃ t, exec (.slotBoundary (.bank 0)) (s 0 1) = .next t ∧ (t.bank 0).airLow = 0 ∧ (t.bank 0).holdEnd = true
        ∧ ∃ u, exec (.airLowHoldEnd 0) t = .next u ∧ (u.bankHanded 0).air = [false])
      ∧ (∃ t, exec (.slotBoundary (.bank 0)) (s 0 2) = .next t ∧ (t.bank 0).airLow = 1 ∧ (t.bank 0).holdEnd = false)
      ∧ (∃ t, exec (.slotBoundary (.bank 1)) (s 1 1) = .next t ∧ (t.bank 1).airLow = 0 ∧ (t.bank 1).holdEnd = true)
      ∧ ∃ t, exec (.slotBoundary (.bank 1)) (s 1 2) = .next t ∧ (t.bank 1).airLow = 1 ∧ (t.bank 1).holdEnd = false :=
  ⟨⟨_, rfl, by decide +kernel, by decide +kernel, _, rfl, by decide +kernel⟩,
    ⟨_, rfl, by decide +kernel, by decide +kernel⟩, ⟨_, rfl, by decide +kernel, by decide +kernel⟩,
    _, rfl, by decide +kernel, by decide +kernel⟩

/-- ChangesOfModeAreHandedOn: the flush with its change of mode reports the count of 0 to the Station Controller alone. -/
theorem test_flush_reports_the_count :
    tRun.mgmt.line.occLow < tRun.mgmt.line.occHigh ∧ (flushInto .standby tRun).handed.occupancy = [false]
      ∧ (flushInto .standby tRun).handed.trackEmpty = 0 := by decide +kernel

/-- ModeRequests: a PROVE on a port that is DOWN leaves the other port, the lanes and the reports as they are. -/
theorem test_prove_on_a_port_that_is_down :
    (State.reset.link .u).state ≠ .linked ∧ State.reset.mc.mode = .standby ∧ State.reset.proving.run = none
      ∧ (startRun .u .check 5 State.reset).portD = State.reset.portD
      ∧ (startRun .u .check 5 State.reset).handed = State.reset.handed
      ∧ ((startRun .u .check 5 State.reset).link .u).state = .proving := by decide +kernel

/-- StatusFramesSetHoldAndInhibit, and the BANK part of AcceptedWritesReplaceTheEntry: a STATUS frame that starts a hold; a
hold that has run out, its report made (withdrawn) and not made. -/
theorem test_witness_Status :
    let s := tHanded ⟨[], [], [⟨3, true⟩], [], []⟩
    (s.inReset = false ∧ (s.bank 0).desc.kind ≠ .disabled ∧ (s.bankHanded 0).status = ⟨3, true⟩ :: []
        ∧ (false = true ↔ (s.bank 0).holdEnd = true ∧ (s.bank 0).airReport = true))
      ∧ (let v := s.setBank 0 { tBank with holdEnd := true, airReport := true };
        (v.bank 0).holdEnd = true ∧ (true = true ↔ (v.bank 0).holdEnd = true ∧ (v.bank 0).airReport = true))
      ∧ (let v := s.setBank 0 { tBank with holdEnd := true };
        (v.bank 0).holdEnd = true ∧ (false = true ↔ (v.bank 0).holdEnd = true ∧ (v.bank 0).airReport = true)) := by decide

/-- ModeEntryClearsTheComposedImage: a mode of each of its two kinds; FlushAbandonsEveryWindow. -/
theorem test_witness_ModeEntry :
    (let s := tHanded ⟨[], [.drain], [], [], []⟩; s.inReset = false ∧ (s.bankHanded 0).modes = .drain :: [])
      ∧ (let s := tHanded ⟨[], [.standby], [], [], []⟩; s.inReset = false ∧ (s.bankHanded 0).modes = .standby :: [])
      ∧ tRun.mgmt.line.occLow < tRun.mgmt.line.occHigh := by decide

/-- StationTickSlewsTheRotor: at the target, within slew of it, more than slew below it and above it. -/
theorem test_witness_Tick :
    tRun.inReset = false ∧ 1 ≤ tRun.station.entry.slew ∧ tRun.station.setpoint = tRun.station.target
      ∧ (20 ≤ 0 + 20 ∧ 0 ≤ 20 + 20) ∧ 0 + 20 < 21 ∧ 0 + 20 < 21 := by decide

/-- BurdenRingAndBand: a contribution; a ring advance that rises (threshold 0 at once), one that falls and one that keeps
its band, in RUN and out of it. -/
theorem test_witness_Ring :
    (let s := { tRun with handed := { tRun.handed with burden := [600], ring := 1 } };
      s.inReset = false ∧ s.handed.burden = 600 :: [] ∧ 0 < s.handed.ring
        ∧ (Vector.replicate 7 0 : Vector Nat 7).toList = s.station.current :: s.station.closed.toList.dropLast
        ∧ (s.station.band.val < 7 ∧ (s.station.bands.toList.getD (s.station.band.val + 1) ⟨0, 0, 0⟩).t ≤ 0))
      ∧ (let bands := (Vector.replicate 8 ⟨9, 0, 0⟩ : Vector BandEntry 8);
        ¬ ((1 : Fin 8).val < 7 ∧ (bands.toList.getD 2 ⟨0, 0, 0⟩).t ≤ 8) ∧ 0 < (1 : Fin 8).val ∧ 8 < bands[1].t - 0)
      ∧ (let bands := (Vector.replicate 8 ⟨9, 0, 0⟩ : Vector BandEntry 8);
        ¬ ((0 : Fin 8).val < 7 ∧ (bands.toList.getD 1 ⟨0, 0, 0⟩).t ≤ 8) ∧ ¬ 0 < (0 : Fin 8).val)
      ∧ tRun.station.mode = .run ∧ State.reset.station.mode ≠ .run ∧ State.reset.station.mode ≠ .drain := by decide

/-- StationTakesChangesOfMode: RUN taken with Port U LINKED, and STANDBY. -/
theorem test_witness_StationMode :
    (let s := { tRun with handed := { tRun.handed with stationModes := [.run, .standby] } };
      s.inReset = false ∧ s.handed.stationModes = .run :: [.standby])
      ∧ (FeederCommand.release = .hold ↔ (decide (Mode.run ≠ .run) || (decide (Mode.run = .run) && !true)) = true)
      ∧ (FeederCommand.hold = .hold ↔ (decide (Mode.standby ≠ .run) || (decide (Mode.standby = .run) && !true)) = true) := by
  decide

/-- HoldReasonReportsAndLinkUp: a report in each channel. -/
theorem test_witness_HoldReports :
    (let s := { tRun with handed := { tRun.handed with occupancy := [true], portUStation := [.left], portDStation := [.left] } };
      s.handed.occupancy = true :: [] ∧ s.handed.portUStation = .left :: [] ∧ s.handed.portDStation = .left :: [])
      ∧ (let s := { tRun with handed := { tRun.handed with portUStation := [.became], portDStation := [.became] } };
        s.handed.portUStation = .became :: [] ∧ s.handed.portDStation = .became :: [])
      ∧ ((tHanded ⟨[], [], [], [], [true]⟩).bankHanded 0).air = true :: []
      ∧ (∀ c : BankIx, (1 : BitVec 4).getLsbD c.val = if c = 0 then true else tRun.station.airBanks.getLsbD c.val) := by
  decide

/-- EmergencyStopTurnsEverythingOff: outside FAULT and in it; a bank in use, with the all-off frame of its four lanes, and
DISABLED ones; Port D LINKED with its lane free, and busy with a frame of the bank waiting; not LINKED. -/
theorem test_witness_EmergencyStop :
    (∀ b : BankIx, decide (b = 0) = true ↔ (tRun.bank b).desc.kind ≠ .disabled)
      ∧ (fireFrame 17 tRun.pos.slot 4 0 = ⟨17, .fire, [0, 4, 0]⟩)
      ∧ (tRun.link .d).state = .linked ∧ (State.reset.link .d).state ≠ .linked
      ∧ (tRun.portD.tx = none ∧ (∀ c : BankIx, tRun.portD.fire[c] = none) ∧ tRun.portD.drive = [] ∧ tRun.portD.relay = [])
      ∧ (tBusy.portD.tx ≠ none ∧ tBusy.portD.fire[0].isSome = true)
      ∧ tRun.inReset = false ∧ tRun.mc.mode ≠ .fault ∧ (faultEntry .reverse tRun).mc.mode = .fault
      ∧ (tRun.bank 0).desc.kind ≠ .disabled ∧ (tRun.bank 1).desc.kind = .disabled := by decide

/-- ReportsToTheModeController: a report of each kind, and a drain at its limit and one count before. -/
theorem test_witness_ModeReports :
    (let s := { tRun with handed :=
        { tRun.handed with
          encoder := 1, reversal := 1, portUMode := [.link .left, .expiry], portDExpiry := 1, trackEmpty := 1 } };
      0 < s.handed.encoder ∧ 0 < s.handed.reversal ∧ s.handed.portUMode = .link .left :: [.expiry]
        ∧ 0 < s.handed.portDExpiry ∧ 0 < s.handed.trackEmpty)
      ∧ (let s := { tRun with handed := { tRun.handed with portUMode := [.link .became] } };
        s.handed.portUMode = .link .became :: [])
      ∧ (let s := { tRun with handed := { tRun.handed with portUMode := [.expiry] } };
        s.handed.portUMode = .expiry :: [])
      ∧ (let s := { tRun with mc := { tRun.mc with mode := .drain, drainStart := 100 - 262144 } };
        s.mc.mode = .drain ∧ (s.mgmt.line.drainLimit : Int) ≤ Machine.sdiff s.pos.tp s.mc.drainStart)
      ∧ (let s := { tRun with mc := { tRun.mc with mode := .drain, drainStart := 101 - 262144 } };
        s.mc.mode = .drain ∧ Machine.sdiff s.pos.tp s.mc.drainStart < (s.mgmt.line.drainLimit : Int)) := by decide

/-- R144: a report of Port U leaving LINKED that waits is taken before the expiry that Port U reported after it. -/
theorem test_port_u_reports_in_order :
    let s := { tRun with handed := { tRun.handed with portUMode := [.link .left, .expiry] } }
    exec .provingExpiryReport s = .next s ∧ exec .blindSpanEnd s = .next s
      ∧ (∃ t, exec .blindSpanBegin s = .next t ∧ t.handed.portUMode = [.expiry])
      ∧ (∀ rest, s.handed.portUMode ≠ .expiry :: rest) ∧ (∀ rest, s.handed.portUMode ≠ .link .became :: rest)
      ∧ ∀ rest, [PortUReport.expiry] ≠ .link .left :: rest :=
  ⟨rfl, rfl, ⟨_, rfl, rfl⟩, fun _ => nofun, fun _ => nofun, fun _ => nofun⟩

/-- FramesAreDroppedRelayedOrHandedOn: a port that takes frames and one that does not; a bad frame; a frame for another
node; a REQUEST, a DETECT of one record, STATUS frames of 3 and of 2 bytes, and a FIRE frame for the part. -/
theorem test_witness_Frames_received :
    takesFrames tRun .u = true ∧ takesFrames State.reset .u = false ∧ parseFrame [1, 2, 3] = none
      ∧ (parseFrame ((⟨5, .fire, []⟩ : Frame).wire 9)).map (·.dest) = some 5
      ∧ (parseFrame ((⟨1, .request, [1, 3]⟩ : Frame).wire 2)).map (·.kind) = some .request
      ∧ (parseFrame ((⟨1, .detect, 1 :: List.replicate 16 0⟩ : Frame).wire 2)).map (·.kind) = some .detect
      ∧ (detectRecords (1 :: List.replicate 16 0)).isSome = true
      ∧ (parseFrame ((⟨1, .status, [0, 3, 1]⟩ : Frame).wire 17)).map (·.src) = some 17
      ∧ (parseFrame ((⟨1, .status, [0, 3]⟩ : Frame).wire 17)).map (·.payload.length) = some 2
      ∧ BitVec.ofNat 6 (tRun.bank 0).desc.node = (17 : NodeAddr) ∧ tRun.nodeAddr = 1 := by decide +kernel

/-- PortsTrainLinkAndDrop, LaneQualityWarnsAndDeclaresLoss: ports in each state, with the partner ready and locked; a port
in PROVING that the run owns and one that it does not; windows at link_warn_on and at link_loss, a run of 7 before the
close; a port whose receiver is locked and one that is not. -/
theorem test_witness_Ports :
    (State.reset.link .d).state = .down ∧ (State.reset.link .d).locked = false
      ∧ (let l := (State.reset.setLink .d { Link.powerOn with state := .training, partnerReady := true }).link .d;
        l.state = .training ∧ l.partnerReady = true)
      ∧ (let l := (State.reset.setLink .d { Link.powerOn with state := .training, locked := true }).link .d;
        l.state = .training ∧ l.locked = true ∧ l.partnerReady = false)
      ∧ (tRun.link .d).state = .linked ∧ (tRun.link .d).locked = true
      ∧ (let s := tProving .d .check (.checker .fresh);
        (s.link .d).state = .proving ∧ s.proving.run = some ⟨.d, .check, .checker .fresh⟩)
      ∧ (let s := tProving .u .generate (.generator 1);
        (s.link .u).state = .proving ∧ ((s.proving.run.map (·.role)) ≠ some .check))
      ∧ (decide (tRun.mgmt.line.linkWarnOn ≤ 4) && !false) = true
      ∧ (if tRun.mgmt.line.linkLoss ≤ 64 then 7 + 1 else 0) = 8 ∧ (if tRun.mgmt.line.linkLoss ≤ 63 then 7 + 1 else 0) ≠ 8 := by
  decide

/-- LaneQualityWarnsAndDeclaresLoss, Port U: a close that sets the warning and declares loss, with LINK_WARN clear and
admitted; its NOTICE waits in the queue. -/
theorem test_close_warns_and_drops :
    let s := tRun.setLink .u { tLink with windowErrors := 64, lossRun := 7 }
    (s.link .u).state = .linked ∧ s.mgmt.flags.getLsbD EventFlag.linkWarn.num = false
      ∧ s.mgmt.mask.getLsbD EventFlag.linkWarn.num = true ∧ s.portU.tx = none ∧ s.portU.queue.length < 8
      ∧ (decide (s.mgmt.line.linkWarnOn ≤ 64) && !(s.link .u).warning) = true
      ∧ ∃ t, exec (.monitorWindowClose .u) s = .next t ∧ t.portU.queue.length = 1 ∧ t.portU.returnDrops = 0 :=
  ⟨rfl, by decide, by decide, rfl, by decide, by decide, _, rfl, by decide, by decide⟩

/-- FreeLanesTakeTheNextFrame: lanes free in LINKED, busy, and not LINKED; a FIRE frame of bank 3 alone, a DRIVE frame that
a free lane takes and a busy one lets wait, a relayed frame, nothing; a reset due with frames waiting, and an answer of a
SOFT RESET sent; a lane in PROVING that generates and one that checks. -/
theorem test_witness_FreeLanes :
    (let f : Frame := ⟨17, .fire, []⟩
      let v : Vector (Option Frame) 4 := #v[none, none, none, some f]
      v[3] = some f ∧ ∀ c : BankIx, c < 3 → v[c] = none)
      ∧ ((tRun.link .d).state = .linked ∧ (tRun.link .u).state = .linked ∧ tRun.portD.tx = none ∧ tRun.portU.tx = none)
      ∧ (tBusy.portD.tx ≠ none ∧ (State.reset.link .d).state ≠ .linked ∧ (State.reset.link .u).state ≠ .linked)
      ∧ ((∀ c : BankIx, tRun.portD.fire[c] = none) ∧ tRun.portD.drive = [] ∧ tRun.portD.relay = [])
      ∧ (issueDrive .rotor tRun).portD.tx.isSome = true ∧ (issueDrive .rotor tBusy).portD.drive.length = 1
      ∧ (let s := { tRun with
          mgmt := { tRun.mgmt with softReset := .due none }
          portU := { tRun.portU with queue := [.relayed []] } };
        s.mgmt.softReset = .due none ∧ (offerReturn s).portU.tx = none
          ∧ (offerReturn { s with mgmt := tRun.mgmt }).portU.queue = [])
      ∧ (let s := { tRun with
          mgmt := { tRun.mgmt with softReset := .waiting }
          portU := { tRun.portU with tx := some (.resetAnswer ⟨2, .answer, []⟩) } };
        s.mgmt.softReset = .waiting ∧ s.portU.tx = some (.resetAnswer ⟨2, .answer, []⟩))
      ∧ (tProving .u .generate (.generator 1)).proving.run = some ⟨.u, .generate, .generator 1⟩
      ∧ (tProving .d .check (.checker .fresh)).proving.run = some ⟨.d, .check, .checker .fresh⟩ := by decide

/-- ProvingRunsCheckAndExpire: a checker not yet synchronised and one that is; a run to expire; a register not 0. -/
theorem test_witness_Proving :
    let r : ProvingResult := ⟨.u, .check, 5, 0, false, .running⟩
    let s (c : Checker) : State := { tRun with proving := ⟨some ⟨.u, .check, .checker c⟩, some r⟩ }
    (s .fresh).proving = ⟨some ⟨.u, .check, .checker .fresh⟩, some r⟩ ∧ Checker.fresh.isSynced = false
      ∧ (Checker.synced 1).isSynced = true ∧ (BitVec.allOnes 15 : BitVec 15) ≠ 0 ∧ tRun.inReset = false := by decide

/-- A generator that starts with every stage at one seeds and synchronises a checker in 79 bits. -/
theorem test_generator_synchronises :
    (Checker.feed (generatorBits 79 (BitVec.allOnes 15)) .fresh).1.isSynced = true
      ∧ (Checker.feed (generatorBits 79 (BitVec.allOnes 15)) .fresh).2 = 0 := by decide +kernel

/-- R167: the next 15 bits are the seed, the oldest at stage 15; an all-zero one is discarded (log 15); a wrong bit discards
the seed, the 64th match synchronises, and a synchronised checker shifts its own prediction. -/
theorem test_checker_seeds_and_starts_afresh :
    Checker.feed (true :: List.replicate 14 false) .fresh = (.matching 0x4000 0, 0)
      ∧ Checker.feed (List.replicate 15 false) .fresh = (.fresh, 0)
      ∧ Checker.feed [false] (.matching 0x4000 63) = (.fresh, 0)
      ∧ Checker.feed [true] (.matching 0x4000 62) = (.matching 1 63, 0)
      ∧ Checker.feed [true] (.matching 0x4000 63) = (.synced 1, 0)
      ∧ Checker.feed [false] (.synced 0x4000) = (.synced 1, 1)
      ∧ (∀ i : Fin 15, (1 : BitVec 15).getLsbD i.val
          = if i.val = 0 then true else (0x4000 : BitVec 15).getLsbD (i.val - 1)) := by decide

/-! ## Requests: what each spells, at the head of the queue -/

/-- Every payload below is served, at the head of the queue, on the running line and on the line at reset. -/
theorem test_witness_Serves (payload : List Byte) :
    Serves (tAsk payload tRun) ⟨2, payload⟩ [] ∧ Serves (tAsk payload State.reset) ⟨2, payload⟩ [] :=
  ⟨⟨rfl, rfl, rfl⟩, ⟨rfl, rfl, rfl⟩⟩

/-- RequestsQueueAndFailToDecode: 3 and 4 requests held; payloads that fail at each check. -/
theorem test_witness_Requests :
    (let s := { tRun with handed := { tRun.handed with requests := [⟨2, [9, 3]⟩] } };
      s.inReset = false ∧ s.handed.requests = ⟨2, [9, 3]⟩ :: [])
      ∧ (List.replicate 3 (⟨2, []⟩ : Request)).length < 4 ∧ 4 ≤ (List.replicate 4 (⟨2, []⟩ : Request)).length
      ∧ decodeRequest [9] = .bad .range ∧ decodeRequest [9, 0] = .bad .unknown ∧ decodeRequest [9, 16] = .bad .unknown
      ∧ decodeRequest [9, 1] = .bad .range ∧ decodeRequest [9, 1, 8] = .bad .unknown
      ∧ decodeRequest [9, 12, 5] = .bad .unknown ∧ decodeRequest [9, 3, 0] = .bad .range
      ∧ decodeRequest [9, 1, 7, 0, 0, 0] = .bad .range ∧ decodeRequest [9, 2, 5, 0] = .bad .range
      ∧ decodeRequest [9, 2, 0] = .bad .range ∧ decodeRequest [9, 2, 7] = .writeTable .windows 0 []
      ∧ decodeRequest [9, 5, 0, 0, 1] = .bad .range ∧ decodeRequest [9, 8] = .bad .range
      ∧ decodeRequest [9, 13, 4] = .bad .range ∧ decodeRequest [9, 14, 1] = .bad .range
      ∧ decodeRequest [9, 15, 0, 1, 0] = .bad .range := by decide

/-- TableReadsAnswerTheEntries: each table, the last bank and the first beyond. -/
theorem test_witness_Reads :
    decodeRequest [9, 1, 0, 0, 0, 0, 1] = .readTable .line 0 0 1
      ∧ decodeRequest [9, 1, 1, 0, 0, 0, 1] = .readTable .station 0 0 1
      ∧ decodeRequest [9, 1, 2, 0, 0, 7, 1] = .readTable .band 0 7 1
      ∧ decodeRequest [9, 1, 3, 0, 0, 3, 9] = .readTable .bank 0 3 9
      ∧ decodeRequest [9, 1, 5, 0, 0, 48, 1] = .readTable (.recipe 1) 0 48 1
      ∧ decodeRequest [9, 1, 6, 0, 3, 255, 1] = .readTable .track 0 1023 1
      ∧ decodeRequest [9, 1, 7, 3, 0, 0, 5] = .readTable .windows 3 0 5
      ∧ decodeRequest [9, 1, 7, 4, 0, 0, 5] = .readTable .windows 4 0 5 := by decide

/-- StatusAndCounterRequests: the status, and each group. -/
theorem test_witness_Counters :
    decodeRequest [9, 11] = .readStatus ∧ tRun.proving.result = none
      ∧ (tProving .d .check (.checker .fresh)).proving.result = some ⟨.d, .check, 5, 0, false, .running⟩
      ∧ tRun.pos.w ≤ 65535 ∧ tRun.track.length ≤ 1024 ∧ tRun.station.b ≤ 134217720
      ∧ decodeRequest [9, 12, 0, 0] = .readCounters .intake 0 ∧ decodeRequest [9, 12, 2, 0] = .readCounters (.tally 1) 0
      ∧ decodeRequest [9, 12, 3, 3] = .readCounters .bank 3 ∧ decodeRequest [9, 12, 3, 4] = .readCounters .bank 4
      ∧ decodeRequest [9, 12, 4, 0] = .readCounters .link 0 ∧ decodeRequest [9, 13, 0, 0] = .clearCounters .intake 0
      ∧ decodeRequest [9, 13, 1, 0] = .clearCounters (.tally 0) 0 ∧ decodeRequest [9, 13, 3, 3] = .clearCounters .bank 3
      ∧ decodeRequest [9, 13, 3, 4] = .clearCounters .bank 4 ∧ decodeRequest [9, 13, 4, 0] = .clearCounters .link 0 := by
  decide

/-- AcceptedWritesReplaceTheEntry: an entry within its ranges for each table, outside RUN and in it. -/
theorem test_witness_Writes :
    (decodeRequest ([9, 2, 0, 0] ++ LineEntry.default.bytes) = .writeTable .line 0 LineEntry.default.bytes
        ∧ (LineEntry.ofBytes LineEntry.default.bytes).inRange = true ∧ State.reset.mc.mode ≠ .run
        ∧ State.reset.mc.mode ≠ .drain)
      ∧ (decodeRequest ([9, 2, 1, 0] ++ StationEntry.default.bytes) = .writeTable .station 0 StationEntry.default.bytes
        ∧ (StationEntry.ofBytes StationEntry.default.bytes).inRange = true)
      ∧ (decodeRequest ([9, 2, 2, 7] ++ BandEntry.default.bytes) = .writeTable .band 7 BandEntry.default.bytes
        ∧ (BandEntry.ofBytes (BandEntry.bytes ⟨134217720, 1500, 1000⟩)).inRange = true
        ∧ (0 : Fin 8) = tRun.station.band ∧ tRun.station.mode = .run ∧ 1000 ≠ tRun.station.bands[0].split)
      ∧ (decodeRequest ([9, 2, 3, 0] ++ tEntry.bytes) = .writeTable .bank 0 tEntry.bytes
        ∧ BankEntry.ofBytes tEntry.bytes = some tEntry ∧ tEntry.inRange = true
        ∧ tEntry.kind = (tRun.bank 0).desc.kind ∧ tEntry.node = (tRun.bank 0).desc.node
        ∧ tEntry.lanes = (tRun.bank 0).desc.lanes)
      ∧ (decodeRequest ([9, 2, 5, 47] ++ tRule.bytes) = .writeTable (.recipe 1) 47 tRule.bytes
        ∧ Rule.ofBytes tRule.bytes = some tRule ∧ tRule.inRange = true ∧ (1 : Fin 2) ≠ tRun.cls.active)
      ∧ (decodeRequest ([9, 2, 5, 48] ++ tRule.bytes) = .writeTable (.recipe 1) 48 tRule.bytes
        ∧ RuleResult.ofBytes tRule.bytes = some tRule.result ∧ tRule.result.inRange = true) := by decide +kernel

/-- RefusedWritesChangeNothing: the two tables never written; an index beyond each table; a mode, an identity and an active
set that refuse; an entry just outside its ranges, and one that is no entry. -/
theorem test_witness_Refusals :
    decodeRequest [9, 2, 6] = .writeTable .track 0 [] ∧ decodeRequest [9, 2, 7, 1] = .writeTable .windows 1 []
      ∧ (tRun.mc.mode = .run ∨ tRun.mc.mode = .drain) ∧ ¬ (State.reset.mc.mode = .run ∨ State.reset.mc.mode = .drain)
      ∧ (LineEntry.ofBytes ({ LineEntry.default with slotUs := 99 } : LineEntry).bytes).inRange = false
      ∧ (StationEntry.ofBytes ({ StationEntry.default with slew := 0 } : StationEntry).bytes).inRange = false
      ∧ (BandEntry.ofBytes (BandEntry.bytes ⟨134217721, 0, 0⟩)).inRange = false
      ∧ fld ({ tEntry with node := 18 } : BankEntry).bytes 1 1 ≠ (tRun.bank 0).desc.node
      ∧ BankEntry.ofBytes (3 :: tEntry.bytes.tail) = none ∧ Rule.ofBytes (2 :: tRule.bytes.tail) = none
      ∧ (0 : Fin 2) = tRun.cls.active
      ∧ RuleResult.ofBytes ({ tRule.result with priority := 8 } : RuleResult).asRule.bytes
          = some { tRule.result with priority := 8 }
      ∧ ({ tRule.result with priority := 8 } : RuleResult).inRange = false := by decide +kernel

/-- EntriesReadBackAsWritten: the power-on entries are within their ranges. -/
theorem test_witness_Entries_in_range :
    LineEntry.default.inRange = true ∧ StationEntry.default.inRange = true ∧ BandEntry.default.inRange = true
      ∧ BankEntry.default.inRange = true ∧ Rule.default.inRange = true ∧ RuleResult.default.inRange = true := by decide

/-- Bytes at a place of their own in an entry, and a choice byte outside its codes (R54, R194). -/
theorem test_entry_layout :
    (LineEntry.ofBytes ((List.range 29).map (BitVec.ofNat 8))).drainLimit = 0x121314
      ∧ (StationEntry.ofBytes ((List.range 14).map (BitVec.ofNat 8))).slew = 0x090A
      ∧ (BandEntry.ofBytes ((List.range 8).map (BitVec.ofNat 8))).split = 0x0607
      ∧ ((RuleResult.ofBytes (tRule.bytes.set 13 2)).map fun r => r.actions[1]) = some .protect
      ∧ RuleResult.ofBytes (tRule.bytes.set 13 3) = none ∧ Rule.ofBytes (tRule.bytes.set 15 255) = none
      ∧ BankEntry.ofBytes (tEntry.bytes.set 18 2) = none ∧ BankEntry.ofBytes (tEntry.bytes.set 23 2) = none := by decide

/-- ModeRequests: each request; the banks in use of the line, of the line at reset, and of one with a node twice; FAULT,
DRAIN, an empty track; the arguments of PROVE at and beyond their ends. -/
theorem test_witness_ModeRequests :
    let nodes (s : State) := (s.banks.toList.filter fun u => decide (u.desc.kind ≠ .disabled)).map (fun u => u.desc.node)
    decodeRequest [9, 3] = .start ∧ decodeRequest [9, 4] = .stop ∧ decodeRequest [9, 6] = .clearFault
      ∧ decodeRequest [9, 5, 1, 1, 0, 1] = .prove 1 1 1 ∧ decodeRequest [9, 5, 2, 0, 0, 0] = .prove 2 0 0
      ∧ nodes tRun = [17] ∧ nodes State.reset = [] ∧ nodes (tRun.setBank 1 tBank) = [17, 17] ∧ ¬ [17, 17].Nodup
      ∧ State.reset.mc.mode = .standby ∧ tRun.mc.mode = .run ∧ tRun.track ≠ [] ∧ State.reset.track = []
      ∧ (faultEntry .estop tRun).mc.mode = .fault ∧ State.reset.proving.run = none
      ∧ ((PortId.d = .u) ↔ 1 = 0) ∧ (ProvingRole.check = .generate ↔ 1 = 0) := by decide

/-- SoftResetClearsAllButTheConfiguration: the request; no earlier reset answer in the queue; a reset due, with an answer
kept and without. -/
theorem test_witness_SoftReset :
    decodeRequest [9, 7] = .softReset ∧ (∀ x ∈ tRun.portU.queue, x.isResetAnswer = false) ∧ tRun.portU.tx = none
      ∧ tRun.portU.queue.length < 8
      ∧ (let s := { tRun with mgmt := { tRun.mgmt with softReset := .due none } };
        s.inReset = false ∧ s.mgmt.softReset = .due none)
      ∧ (let s := { tRun with mgmt := { tRun.mgmt with softReset := .due (some ⟨2, .answer, [9, 7, 0]⟩) } };
        s.mgmt.softReset = .due (some ⟨2, .answer, [9, 7, 0]⟩)) := by decide

/-- R133, R180 (log 6): the reset drops a mode change and a retirement report and keeps a boundary and a burden; an asserted
STOPn is then taken as EMERGENCY_STOP takes it. -/
theorem test_soft_reset_drops_and_keeps_reports :
    let h := tHanded ⟨[5], [.run], [], [7], [true]⟩
    let s := { h with
      mgmt := { h.mgmt with softReset := .due none }
      handed := { h.handed with burden := [6], occupancy := [true], stationModes := [.run] } }
    (∃ t, exec (.softResetPerformed .deasserted) s = .next t ∧ t.bankHanded 0 = ⟨[5], [], [], [], []⟩
        ∧ t.handed.burden = [6] ∧ t.handed.occupancy = [] ∧ t.handed.stationModes = []
        ∧ exec (.softResetPerformed .asserted) s = exec .emergencyStop t) :=
  ⟨_, rfl, by decide +kernel, rfl, rfl, rfl, rfl⟩

/-- SelectFeedAndEventRequests: sets 1 and 2; flag sets that leave a flag admitted and none. -/
theorem test_witness_Select :
    decodeRequest [9, 8, 1] = .selectSet 1 ∧ decodeRequest [9, 8, 2] = .selectSet 2 ∧ decodeRequest [9, 9] = .holdFeed
      ∧ decodeRequest [9, 10] = .releaseFeed ∧ decodeRequest [9, 14, 0xFF, 0xFE] = .clearEvents 0x7FFE
      ∧ decodeRequest [9, 15, 0, 1] = .setMask 1
      ∧ (∀ k, k < 15 → (1 : BitVec 15).getLsbD k = ((0x7FFF : BitVec 15).getLsbD k && !(0x7FFE : BitVec 15).getLsbD k))
      ∧ (true = true ↔ ∃ k, k < 15 ∧ (1 : BitVec 15).getLsbD k = true ∧ (1 : BitVec 15).getLsbD k = true)
      ∧ (false = true ↔ ∃ k, k < 15 ∧ (0 : BitVec 15).getLsbD k = true ∧ (1 : BitVec 15).getLsbD k = true) := by decide

end Sys2Proof.Tests
end

/-! The belt: its commands, what moves TP, and what runs while RESETn is asserted (spec 01, R10, R182). -/

namespace Sys2Proof.Machine

/-! ## Commands on the time base -/

/-- Settles O1: a step is `exec` of the front command on the state with the queue's rest. -/
theorem stepRunsTheFrontCommand : Obligations.StepRunsTheFrontCommand := by
  intro c rest s
  rfl

/-- Every command but POWER_ON and RESETN_ASSERTED is an effect on the running time base (R10; log 10). -/
theorem exec_eq_whenRunning (c : Instr) (hp : ∀ a e l, c ≠ .powerOn a e l) (hr : c ≠ .resetnAsserted) :
    ∃ f : State → State, ∀ s, exec c s = whenRunning f s := by
  cases c
  case powerOn a e l => exact absurd rfl (hp a e l)
  case resetnAsserted => exact absurd rfl hr
  all_goals exact ⟨_, fun _ => rfl⟩

/-- Settles O3: RESETN_ASSERTED by its definition; every other command waits for the time base to run. -/
theorem resetAssertedHoldsThePart : Obligations.ResetAssertedHoldsThePart := by
  refine ⟨fun s => rfl, fun c s hs hp hr => ?_⟩
  obtain ⟨f, hf⟩ := exec_eq_whenRunning c hp hr
  rw [hf, whenRunning_inReset f hs]

/-! ## The encoder transitions -/

/-- E has reached TP + 1 exactly when it stood at TP (R4). -/
theorem passes_iff (e tp : Pos) : e + 1 = tp + 1 ↔ e = tp :=
  ⟨fun h => by simpa using h, fun h => by rw [h]⟩

/-- A forward transition at TP: E, TP and the bin move, and a crossing is handed on (R3, R4, R6, R114). -/
theorem forwardStep_at_tp {s : State} (h : s.pos.e = s.pos.tp) :
    forwardStep s =
      { s with
        pos := { s.pos with
          stored := ⟨!s.pos.stored.b, s.pos.stored.a⟩
          e := s.pos.e + 1
          tp := s.pos.tp + 1
          bin := min (s.pos.bin + 1) 65535 }
        handed := { s.handed with
          ring := if (s.pos.tp + 1).toNat % s.mgmt.line.segLen = 0 then s.handed.ring + 1 else s.handed.ring } } := by
  unfold forwardStep
  simp only [h, if_true, crosses, decide_eq_true_eq]
  split <;> rfl

/-- A forward transition behind TP moves E alone (R3, R4). -/
theorem forwardStep_behind_tp {s : State} (h : s.pos.e ≠ s.pos.tp) :
    forwardStep s = { s with pos := { s.pos with stored := ⟨!s.pos.stored.b, s.pos.stored.a⟩, e := s.pos.e + 1 } } := by
  unfold forwardStep
  simp only [passes_iff, if_neg h]
  rfl

/-- Settles O18: each transition by its effect; a forward one by whether E stands at TP, a reverse one by the depth against
reverse_limit, an illegal one by its count against enc_fault_limit. -/
theorem encoderTransitionsMoveTheBelt : Obligations.EncoderTransitionsMoveTheBelt := by
  refine ⟨fun s hs => ⟨fun h => ?_, fun h => ?_⟩, fun s hs => ⟨fun h => ?_, fun h => ?_⟩, fun s hs => ?_⟩
  · exact (whenRunning_running forwardStep hs).trans (congrArg _ (forwardStep_at_tp h))
  · exact (whenRunning_running forwardStep hs).trans (congrArg _ (forwardStep_behind_tp h))
  · exact (whenRunning_running reverseStep hs).trans (congrArg _ (if_neg (Nat.not_lt.2 h)))
  · exact (whenRunning_running reverseStep hs).trans (congrArg _ (if_pos h))
  · refine (whenRunning_running illegalStep hs).trans (congrArg _ ?_)
    unfold illegalStep
    dsimp only
    split <;> rfl

/-! ## The bin close -/

/-- The history after a bin close, entry by entry (R7). -/
theorem pushBin_eq {bin : Nat} {history h : Vector Nat 16}
    (hh : ∀ i : Fin 16, h[i] = if i.val = 0 then bin else history.toList.getD (i.val - 1) 0) :
    pushBin bin history = h := by
  apply Vector.ext
  intro i hi
  rw [show h[i] = _ from hh ⟨i, hi⟩]
  by_cases h0 : i = 0
  · simp [pushBin, h0]
  · have : i - 1 < 16 := by omega
    simp [pushBin, h0, this]

theorem stallOf_eq {w stallW : Nat} {stall : StallState} (h : stall = .stalled ↔ w < stallW) : stallOf w stallW = stall := by
  unfold stallOf
  cases stall <;> simp_all

/-- BIN_CLOSE on the running time base: the Position Unit's bin close, and BELT_STALL on a stall in RUN (R7, R8). -/
theorem exec_binClose {s : State} (hs : s.inReset = false) :
    exec .binClose s = .next
      (if s.pos.stall = .moving ∧ (closeBin s.mgmt.line s.pos).stall = .stalled ∧ s.mc.mode = .run then
        raise [.beltStall] { s with pos := closeBin s.mgmt.line s.pos }
      else { s with pos := closeBin s.mgmt.line s.pos }) := by
  simp only [exec, execBinClose, whenRunning_running _ hs]

/-- Settles O19: the history is `pushBin`, from which W, the stall state and C follow. -/
theorem binCloseSetsSpeedStallAndCounts : Obligations.BinCloseSetsSpeedStallAndCounts := by
  intro s h w stall hs hh hw hstall
  have hclose : closeBin s.mgmt.line s.pos =
      { s.pos with
        bin := 0, history := h, w := w, stall := stall, c := (s.mgmt.line.slotUs * w + 8000) / 16000 } := by
    have hspeed : speedOf h = w := hw.symm
    simp only [closeBin, pushBin_eq hh, hspeed, stallOf_eq hstall, countsPerSlot]
  rw [exec_binClose hs, hclose]

/-! ## The slot boundary -/

/-- The end of a slot at the Position Unit hands the new number to each bank (R11). -/
theorem clockBoundary_bankHanded (s : State) (b : BankIx) :
    (clockBoundary s).bankHanded b =
      { s.bankHanded b with boundaries := (s.bankHanded b).boundaries ++ [s.pos.slot + 1] } := by
  simp [clockBoundary, State.bankHanded]

/-- A DISABLED bank takes a boundary (R109). -/
theorem bankBoundary_disabled {s : State} {b : BankIx} {n : BitVec 8} {rest : List (BitVec 8)}
    (hk : (s.bank b).desc.kind = .disabled) (hn : (s.bankHanded b).boundaries = n :: rest) :
    bankBoundary b s =
      (s.setBankHanded b { s.bankHanded b with boundaries := rest }).setBank b
        { s.bank b with
          composed := 0, latched := 0, airLow := (s.bank b).airLow - 1
          holdEnd := (s.bank b).holdEnd || decide ((s.bank b).airLow = 1) } := by
  unfold bankBoundary
  rw [hn]
  simp only [if_pos hk, boundaryDisabled, countHold_eq, State.bank_setBankHanded]

/-- A new Bank Unit and new reports for one bank leave everything else as it was. -/
theorem sameOutsideBank_set (b : BankIx) (s : State) (h : BankHanded) (u : BankUnit) :
    SameOutsideBank b s ((s.setBankHanded b h).setBank b u) :=
  ⟨rfl, rfl, rfl, rfl, rfl, rfl, rfl, rfl, rfl, rfl, rfl, rfl, List.prefix_refl _, rfl, rfl, rfl, rfl, rfl, rfl, rfl, rfl,
    rfl, fun _ hc => ⟨State.bank_setBank_ne _ hc u, State.bankHanded_setBankHanded_ne s hc h⟩⟩

/-- Settles O29: the Position Unit's part by `clockBoundary`, a DISABLED bank's by `bankBoundary_disabled`. -/
theorem slotClockAndDisabledBanks : Obligations.SlotClockAndDisabledBanks := by
  refine ⟨fun s hs => ⟨clockBoundary s, whenRunning_running _ hs, rfl, clockBoundary_bankHanded s, ?_⟩,
    fun s b n rest hs hk hn => ⟨_, (whenRunning_running _ hs).trans (congrArg _ (bankBoundary_disabled hk hn)), ?_⟩⟩
  · and_intros <;> rfl
  · simp [sameOutsideBank_set]

/-! ## The station tick -/

/-- STATION_TICK on the running time base (R122). -/
theorem exec_stationTick {s : State} (hs : s.inReset = false) :
    exec .stationTick s = .next
      (if s.station.slewed = s.station.setpoint then s
      else issueDrive .rotor (s.setStation { s.station with setpoint := s.station.slewed })) := by
  simp only [exec, execStationTick, whenRunning_running _ hs]

/-- Settles O41: `slewed` is the target within a slew step of it, and otherwise a step toward it. -/
theorem stationTickSlewsTheRotor : Obligations.StationTickSlewsTheRotor := by
  intro s hs hslew
  rw [exec_stationTick hs]
  refine ⟨fun hat => ?_, fun v hne hnear hup hdown => ?_⟩
  · have hstays : s.station.slewed = s.station.setpoint := by simp [Station.slewed, hat]
    rw [if_pos hstays]
  · have hslewed : s.station.slewed = v := by
      unfold Station.slewed
      split <;> split <;> omega
    have hmoved : v ≠ s.station.setpoint := by omega
    rw [hslewed, if_neg hmoved]
    rfl

end Sys2Proof.Machine

/-! The place of the part: TP and the node address, which no command but POWER_ON and FORWARD_COUNT moves (R4, R161). -/

namespace Sys2Proof.Machine

/-- Two states with the same node address and the same TP. -/
def SamePlace (s t : State) : Prop := t.nodeAddr = s.nodeAddr ∧ t.pos.tp = s.pos.tp

@[simp] theorem SamePlace.refl (s : State) : SamePlace s s := ⟨rfl, rfl⟩

theorem SamePlace.trans {s t u : State} (h : SamePlace s t) (h' : SamePlace t u) : SamePlace s u :=
  ⟨h'.1.trans h.1, h'.2.trans h.2⟩

/-- An effect that leaves the Position Unit and the node address alone keeps the place. -/
theorem SamePlace.of_pos {s t : State} (hn : t.nodeAddr = s.nodeAddr) (hp : t.pos = s.pos) : SamePlace s t :=
  ⟨hn, by rw [hp]⟩

/-- An effect that keeps the place keeps it as a command. -/
theorem whenRunning_samePlace {f : State → State} (hf : ∀ s, SamePlace s (f s)) {s t : State}
    (h : whenRunning f s = .next t) : SamePlace s t :=
  whenRunning_keeps (P := SamePlace s) (.refl s) (fun _ => hf s) h

/-- Serving a request keeps the place when the request does: the answer and the queue do not touch it (R172). -/
theorem serve_samePlace {want : Decoded → Option Act}
    (hact : ∀ d act, want d = some act → ∀ s, SamePlace s (act s).1) (s : State) : SamePlace s (serve want s) := by
  obtain h | ⟨r, rest, act, -, -, hw, h⟩ := serve_cases want s
  · rw [h]; exact .refl s
  · rw [h]
    exact (hact _ _ hw s).trans (.of_pos (by simp) (by simp))

/-! ## The requests that change something -/

@[simp] theorem applyLine_samePlace (e : LineEntry) (s : State) : SamePlace s (applyLine e s) := by
  refine ⟨rfl, ?_⟩
  unfold applyLine
  dsimp only
  split <;> rfl

@[simp] theorem writeLineAct_samePlace (i : Nat) (entry : List Byte) (s : State) :
    SamePlace s (writeLineAct i entry s).1 := by
  unfold writeLineAct
  split <;> [skip; (split <;> [skip; split])] <;> simp

@[simp] theorem writeStationAct_samePlace (i : Nat) (entry : List Byte) (s : State) :
    SamePlace s (writeStationAct i entry s).1 := by
  unfold writeStationAct
  split <;> [skip; split] <;> exact .of_pos (by simp) (by simp)

@[simp] theorem writeBandAct_samePlace (i : Nat) (entry : List Byte) (s : State) :
    SamePlace s (writeBandAct i entry s).1 := by
  unfold writeBandAct
  split <;> [split; skip] <;> exact .of_pos (by simp) (by simp)

@[simp] theorem writeBankAct_samePlace (i : Nat) (entry : List Byte) (s : State) :
    SamePlace s (writeBankAct i entry s).1 := by
  unfold writeBankAct
  repeat' split
  all_goals exact .of_pos (by simp) (by simp)

@[simp] theorem writeRecipeAct_samePlace (set : Fin 2) (i : Nat) (entry : List Byte) (s : State) :
    SamePlace s (writeRecipeAct set i entry s).1 := by
  unfold writeRecipeAct
  repeat' split
  all_goals exact .of_pos (by simp) (by simp)

@[simp] theorem doClearFault_samePlace (stop : StopLevel) (s : State) : SamePlace s (doClearFault stop s).1 := by
  refine ⟨by simp, ?_⟩
  unfold doClearFault
  split <;> [skip; split] <;> rfl

@[simp] theorem selectSetAct_samePlace (n : Nat) (s : State) : SamePlace s (selectSetAct n s).1 := by
  unfold selectSetAct
  split <;> exact .refl s

theorem clearGroup_samePlace {g : GroupId} {bank : Nat} {s t : State} (h : clearGroup g bank s = some t) :
    SamePlace s t := by
  cases g <;> dsimp only [clearGroup] at h
  case bank =>
    split at h <;> cases h
    exact .of_pos rfl rfl
  all_goals cases h; exact .of_pos rfl rfl

@[simp] theorem clearCountersAct_samePlace (g : GroupId) (bank : Nat) (s : State) :
    SamePlace s (clearCountersAct g bank s).1 := by
  unfold clearCountersAct
  split
  · rename_i hg; exact clearGroup_samePlace hg
  · exact .refl s

/-! ## Every command -/

/-- Every command but POWER_ON and FORWARD_COUNT keeps the node address and TP: the Position Unit's own commands change
other fields of it, a request goes by its act, and every other command leaves the Position Unit alone in each branch, by the
frame lemmas. -/
theorem exec_samePlace {c : Instr} {s t : State} (hp : ∀ a e l, c ≠ .powerOn a e l) (hf : c ≠ .forwardCount)
    (h : exec c s = .next t) : SamePlace s t := by
  cases c <;> dsimp only [exec] at h
  case powerOn a e l => exact absurd rfl (hp a e l)
  case forwardCount => exact absurd rfl hf
  case resetnAsserted => injection h with h; subst h; exact ⟨rfl, rfl⟩
  case reverseCount | illegalTransition => exact whenRunning_samePlace (fun s => ⟨by simp, by simp⟩) h
  case binClose =>
    refine whenRunning_samePlace (fun s => ?_) h
    dsimp only
    split
    · exact ⟨by simp, by simp [closeBin]⟩
    · exact ⟨rfl, rfl⟩
  case slotBoundary part =>
    refine whenRunning_samePlace (fun s => ?_) h
    cases part with
    | clock => exact ⟨rfl, rfl⟩
    | bank b => exact .of_pos (by simp) (by simp)
  case softReset =>
    refine whenRunning_samePlace (fun s => ?_) h
    repeat' split
    all_goals exact .of_pos (by simp) (by simp)
  case softResetPerformed stop =>
    refine whenRunning_samePlace (fun s => ?_) h
    split
    · exact ⟨by simp, by simp [resetBlocks]⟩
    · exact .refl s
    · exact .refl s
  case readLine | readStation | readBand | readBank | readRecipe | readTrack | readWindows | writeTrack | writeWindows
      | unknownRequest | readStatus | readCounters =>
    refine whenRunning_samePlace (serve_samePlace fun d act hw s => ?_) h
    split at hw <;> cases hw
    exact .refl s
  case start | stop | prove | holdFeed | releaseFeed | clearEvents | setMask =>
    refine whenRunning_samePlace (serve_samePlace fun d act hw s => ?_) h
    split at hw <;> cases hw
    exact .of_pos (by simp [operatorAct, clearEventsAct, setMaskAct]) (by simp [operatorAct, clearEventsAct, setMaskAct])
  case clearFault stop =>
    refine whenRunning_samePlace (serve_samePlace fun d act hw s => ?_) h
    split at hw <;> cases hw
    exact doClearFault_samePlace stop { s with stopn := stop }
  case writeLine | writeStation | writeBand | writeBank | writeRecipe | selectSet | clearCounters =>
    refine whenRunning_samePlace (serve_samePlace fun d act hw s => ?_) h
    split at hw <;> cases hw
    simp
  case retirementReport | statusFrame =>
    refine whenRunning_samePlace (fun s => ?_) h
    split
    · exact .refl s
    · dsimp only
      repeat' split
      all_goals exact .of_pos (by simp) (by simp)
  case signalDetected | receiverLocked | partnerReadyChange | signalLoss | monitorWindowClose | codeError =>
    refine whenRunning_samePlace (fun s => ?_) h
    dsimp only
    repeat' split
    all_goals exact .of_pos (by simp) (by simp)
  all_goals
    refine whenRunning_samePlace (fun s => ?_) h
    (repeat' split) <;> exact .of_pos (by simp) (by simp)

/-- Settles O12: a forward transition by whether E stands at TP, every other command by `exec_samePlace`. -/
theorem trackPositionNeverDecreases : Obligations.TrackPositionNeverDecreases := by
  intro c s t hp h
  by_cases hc : c = .forwardCount
  · subst hc
    obtain ⟨-, rfl⟩ | ⟨-, rfl⟩ := whenRunning_eq_next (f := forwardStep) h
    · by_cases he : s.pos.e = s.pos.tp
      · rw [forwardStep_at_tp he]
        exact ⟨rfl, .inr ⟨rfl, rfl, by simp [he]⟩⟩
      · rw [forwardStep_behind_tp he]
        exact ⟨rfl, .inl rfl⟩
    · exact ⟨rfl, .inl rfl⟩
  · obtain ⟨hn, ht⟩ := exec_samePlace hp hc h
    exact ⟨hn, .inl ht⟩

end Sys2Proof.Machine

/-! The accepted table writes: the entry replaced, and the effects of the write (R9, R53, R60, R116, R119, R120). -/

namespace Sys2Proof.Machine

/-- RUN and DRAIN are the modes that fire (R88). -/
theorem firing_iff (m : Mode) : m.firing = true ↔ m = .run ∨ m = .drain := by
  simp [Mode.firing]

/-- RUN and DRAIN are the modes in which a write is restricted (R53, R60, R175). -/
theorem running_iff (s : State) : s.running = true ↔ s.mc.mode = .run ∨ s.mc.mode = .drain :=
  firing_iff s.mc.mode

/-! ## The LINE write -/

theorem applyLine_eq (e : LineEntry) (s : State) :
    applyLine e s =
      { s with
        mgmt := { s.mgmt with line := e }
        pos := { s.pos with
          c := if e.slotUs = s.mgmt.line.slotUs then s.pos.c else (e.slotUs * s.pos.w + 8000) / 16000 } } := by
  unfold applyLine
  split <;> rfl

theorem writeLineAct_accepted {s : State} {bytes : List Byte} (hmode : s.running = false)
    (hr : (LineEntry.ofBytes bytes).inRange = true) :
    writeLineAct 0 bytes s = (applyLine (.ofBytes bytes) s, .done) := by
  simp [writeLineAct, hmode, hr]

/-! ## The STATION write -/

/-- The rotor target depends on the mode, the band and the entry alone (R121). -/
theorem targetOf_eq (st : Station) :
    st.targetOf =
      clamp (if st.mode = .run ∨ st.mode = .drain then st.bands[st.band].f else st.entry.rotIdle)
        st.entry.rotMin st.entry.rotMax := by
  simp only [Station.targetOf, firing_iff]

/-- The setpoint is clamped to another value exactly when it lies outside the rotor range (R120). -/
theorem outOfRange_iff (e : StationEntry) (x : Nat) :
    outOfRange e x = true ↔ clamp x e.rotMin e.rotMax ≠ x := by
  simp only [outOfRange, clamp, Bool.or_eq_true, decide_eq_true_eq]
  split
  · omega
  · split <;> omega

/-- The arbiter does not read the Station Controller. -/
theorem offerForward_setStation (s : State) (x : Station) :
    offerForward (s.setStation x) = (offerForward s).setStation x := by
  have hstart : startForward (s.setStation x) = (startForward s).setStation x := by
    unfold startForward
    simp only [State.setStation_portD]
    split <;> [skip; (split <;> [skip; split])] <;> rfl
  unfold offerForward
  simp only [State.linked_setStation, State.setStation_portD, hstart]
  split <;> rfl

/-- A DRIVE frame carries the node and the value of its station, and leaves the Station Controller as it is: a change of
anything else there may come before it or after it (R131). -/
theorem issueDrive_setStation (i : StationId) (s : State) {x : Station} (hn : x.node i = s.station.node i)
    (hv : x.value i = s.station.value i) : issueDrive i (s.setStation x) = (issueDrive i s).setStation x := by
  unfold issueDrive
  simp only [State.linked_setStation, State.setStation_station, State.setStation_portD, hn, hv]
  split
  · exact offerForward_setStation { s with portD := _ } x
  · rfl

/-- The rotor's DRIVE frame does not carry the target (R131), so the target may be recomputed before it. -/
theorem issueDrive_rotor_retarget (s : State) :
    (issueDrive .rotor s).setStation (issueDrive .rotor s).station.retarget
      = issueDrive .rotor (s.setStation s.station.retarget) := by
  have hkeep : (issueDrive .rotor s).station = s.station := by simp
  rw [hkeep]
  exact (issueDrive_setStation .rotor s (x := s.station.retarget) rfl rfl).symm

/-- The stations that a STATION write sends a frame to, in the order of their frames (R120; log 28). -/
def stationFrames (e : StationEntry) (s : State) : List StationId :=
  (if outOfRange e s.station.setpoint = true ∨ e.rotorNode ≠ s.station.entry.rotorNode then [.rotor] else [])
    ++ (if e.splitterNode ≠ s.station.entry.splitterNode then [.splitter] else [])
    ++ (if e.feederNode ≠ s.station.entry.feederNode then [.feeder] else [])

/-- The Station Controller that a STATION write leaves: the entry, the clamped setpoint, the target recomputed (R120). -/
def Station.written (st : Station) (e : StationEntry) : Station :=
  ({ st with entry := e, setpoint := clamp st.setpoint e.rotMin e.rotMax } : Station).retarget

/-- A frame that goes to a station on a condition. -/
theorem foldl_issueDrive_ite (c : Prop) [Decidable c] (i : StationId) (s : State) :
    (if c then [i] else []).foldl (fun u i => issueDrive i u) s = if c then issueDrive i s else s := by
  split <;> rfl

/-- A STATION write is the new Station Controller and then the frames: the rotor's one frame may come after the target. -/
theorem applyStation_eq (e : StationEntry) (s : State) :
    applyStation e s =
      (stationFrames e s).foldl (fun u i => issueDrive i u) (s.setStation (s.station.written e)) := by
  unfold applyStation stationFrames
  simp only [List.foldl_append, foldl_issueDrive_ite]
  cases hout : outOfRange e s.station.setpoint
  · simp only [Bool.false_eq_true, if_false, false_or, Bool.not_false, and_true]
    rfl
  · simp only [if_true, true_or, Bool.not_true, Bool.false_eq_true, and_false, if_false, issueDrive_rotor_retarget]
    rfl

theorem writeStationAct_accepted {s : State} {bytes : List Byte} (hr : (StationEntry.ofBytes bytes).inRange = true) :
    writeStationAct 0 bytes s = (applyStation (.ofBytes bytes) s, .done) := by
  simp [writeStationAct, hr]

/-! ## The BAND write -/

theorem writeBandAct_accepted {s : State} {k : Fin 8} {bytes : List Byte}
    (hr : (BandEntry.ofBytes bytes).inRange = true) :
    writeBandAct k.val bytes s = (applyBand k (.ofBytes bytes) s, .done) := by
  simp [writeBandAct, hr]

/-- A BAND write that changes the split of the present band in RUN or DRAIN commands the splitter to it (R118, R123). -/
theorem applyBand_present {k : Fin 8} {e : BandEntry} {s : State}
    (h : k = s.station.band ∧ s.station.mode.firing = true ∧ e.split ≠ s.station.bands[k].split) :
    applyBand k e s =
      issueDrive .splitter
        (s.setStation
          { ({ s.station with bands := s.station.bands.set k e } : Station).retarget with splitter := e.split }) := by
  have hsplit : (s.station.bands.set k e)[s.station.band].split = e.split := by simp [← h.1]
  unfold applyBand commandSplitter
  rw [if_pos h]
  exact congrArg
    (fun v => issueDrive .splitter
      (s.setStation { ({ s.station with bands := s.station.bands.set k e } : Station).retarget with splitter := v }))
    hsplit

theorem applyBand_other {k : Fin 8} {e : BandEntry} {s : State}
    (h : ¬ (k = s.station.band ∧ s.station.mode.firing = true ∧ e.split ≠ s.station.bands[k].split)) :
    applyBand k e s = s.setStation ({ s.station with bands := s.station.bands.set k e } : Station).retarget :=
  if_neg h

/-! ## The BANK write -/

theorem bankKind_ofCode {c : Nat} {k : BankKind} (h : BankKind.ofCode c = some k) : c = k.code := by
  unfold BankKind.ofCode at h
  split at h <;> cases h <;> rfl

/-- The identity bytes of a BANK entry that reads are those of its kind, node and lanes (R60, R194). -/
theorem bankEntry_identity {bytes : List Byte} {e : BankEntry} (h : BankEntry.ofBytes bytes = some e) :
    fld bytes 0 1 = e.kind.code ∧ fld bytes 1 1 = e.node ∧ fld bytes 2 1 = e.lanes := by
  simp only [BankEntry.ofBytes, Option.bind_eq_bind, Option.bind_eq_some_iff, Option.pure_def, Option.some.injEq] at h
  obtain ⟨kind, hkind, _, _, _, _, _, _, rfl⟩ := h
  exact ⟨bankKind_ofCode hkind, rfl, rfl⟩

theorem writeBankAct_accepted {s : State} {b : BankIx} {bytes : List Byte} {e : BankEntry}
    (he : BankEntry.ofBytes bytes = some e) (hr : e.inRange = true)
    (hid : s.running = true →
      e.kind = (s.bank b).desc.kind ∧ e.node = (s.bank b).desc.node ∧ e.lanes = (s.bank b).desc.lanes) :
    writeBankAct b.val bytes s = (applyBank b e s, .done) := by
  obtain ⟨hkind, hnode, hlanes⟩ := bankEntry_identity he
  have hkeeps : (s.running && identityDiffers (s.bank b).desc bytes) = false := by
    cases hrun : s.running
    · rfl
    · obtain ⟨h1, h2, h3⟩ := hid hrun
      simp [identityDiffers, hkind, hnode, hlanes, h1, h2, h3]
  simp [writeBankAct, hkeeps, he, hr]

theorem State.setBank_bank (s : State) (b : BankIx) : s.setBank b (s.bank b) = s := by
  simp [State.setBank, State.bank]

theorem State.setBankHanded_bankHanded (s : State) (b : BankIx) : s.setBankHanded b (s.bankHanded b) = s := by
  simp [State.setBankHanded, State.bankHanded]

theorem State.setBankHanded_setBankHanded (s : State) (b : BankIx) (g h : BankHanded) :
    (s.setBankHanded b g).setBankHanded b h = s.setBankHanded b h := by
  simp [State.setBankHanded]

/-- The block of a bank and its reports may be replaced in either order. -/
theorem State.setBank_setBankHanded (s : State) (b : BankIx) (u : BankUnit) (h : BankHanded) :
    (s.setBankHanded b h).setBank b u = (s.setBank b u).setBankHanded b h := rfl

/-- Settling a hold that ran out: its report is withdrawn when it stood (R101; log 19). -/
theorem endHold_eq {b : BankIx} {s : State} {withdrawn : Bool}
    (h : withdrawn = true ↔ (s.bank b).holdEnd = true ∧ (s.bank b).airReport = true) :
    endHold b s =
      (s.setBank b { s.bank b with airReport := (s.bank b).airReport && !withdrawn, holdEnd := false }).setBankHanded b
        { s.bankHanded b with air := (s.bankHanded b).air ++ (if withdrawn then [false] else []) } := by
  by_cases hend : (s.bank b).holdEnd = true
  · by_cases hair : (s.bank b).airReport = true
    · have hw : withdrawn = true := h.2 ⟨hend, hair⟩
      simp [endHold, hend, hair, hw]
    · have hw : withdrawn = false := by simpa [hair] using h
      simp only [endHold, hend, if_true, hw, Bool.eq_false_of_not_eq_true hair, Bool.false_eq_true,
        if_false, Bool.false_and, List.append_nil]
      exact (State.setBankHanded_bankHanded (s.setBank b _) b).symm
  · have hw : withdrawn = false := by simpa [hend] using h
    have hu : { s.bank b with airReport := (s.bank b).airReport && !false, holdEnd := false } = s.bank b := by
      cases hs : s.bank b
      simp_all
    simp only [endHold, if_neg hend, hw, hu, State.setBank_bank, Bool.false_eq_true, if_false, List.append_nil]
    exact (State.setBankHanded_bankHanded s b).symm

/-- A change of the AIR combination is reported, and no change is (R102). -/
theorem reportAir_eq (b : BankIx) (s : State) :
    reportAir b s =
      (s.setBank b { s.bank b with airReport := (s.bank b).holdsFeeder }).setBankHanded b
        { s.bankHanded b with
          air := (s.bankHanded b).air
            ++ (if (s.bank b).holdsFeeder = (s.bank b).airReport then [] else [(s.bank b).holdsFeeder]) } := by
  unfold reportAir
  dsimp only
  split
  · rename_i h
    simp only [h, List.append_nil]
    refine Eq.symm ((congrArg (·.setBankHanded b (s.bankHanded b)) (State.setBank_bank s b)).trans ?_)
    exact State.setBankHanded_bankHanded s b
  · rfl

/-- A BANK write: the entry, what the hold that ran out withdraws, and the AIR combination reported anew (R60, R62,
R102; log 19). -/
theorem applyBank_eq {b : BankIx} {e : BankEntry} {s : State} {withdrawn air : Bool}
    (hw : withdrawn = true ↔ (s.bank b).holdEnd = true ∧ (s.bank b).airReport = true)
    (hair : air = (decide (e.kind = .air ∧ 0 < (s.bank b).airLow) && e.airFeedHold)) :
    applyBank b e s =
      (s.setBank b { s.bank b with desc := e, airReport := air, holdEnd := false }).setBankHanded b
        { s.bankHanded b with air := (s.bankHanded b).air ++ (if withdrawn then [false] else [])
            ++ (if air = ((s.bank b).airReport && !withdrawn) then [] else [air]) } := by
  have hholds : air = BankUnit.holdsFeeder
      { s.bank b with desc := e, airReport := (s.bank b).airReport && !withdrawn, holdEnd := false } := by
    simp [hair, BankUnit.holdsFeeder, BankUnit.onReserve]
  simp only [applyBank, endHold_eq hw, reportAir_eq, State.bank_setBankHanded, State.bank_setBank_self,
    State.setBank_setBankHanded, State.bankHanded_setBankHanded_self, State.setBankHanded_setBankHanded,
    State.setBank_setBank, ← hholds]

/-! ## The RECIPE write -/

theorem writeRecipeAct_rule {s : State} {set : Fin 2} {i : Fin 48} {bytes : List Byte} {e : Rule}
    (he : Rule.ofBytes bytes = some e) (hr : e.inRange = true) (hset : ¬ (s.running = true ∧ set = s.cls.active)) :
    writeRecipeAct set i.val bytes s =
      (s.setRecipe set { s.cls.sets[set] with rules := s.cls.sets[set].rules.set i e }, .done) := by
  have hi : ¬ 48 < i.val := by omega
  simp [writeRecipeAct, hi, he, hr, hset]

theorem writeRecipeAct_default {s : State} {set : Fin 2} {bytes : List Byte} {e : RuleResult}
    (he : RuleResult.ofBytes bytes = some e) (hr : e.inRange = true)
    (hset : ¬ (s.running = true ∧ set = s.cls.active)) :
    writeRecipeAct set 48 bytes s = (s.setRecipe set { s.cls.sets[set] with dflt := e }, .done) := by
  simp [writeRecipeAct, he, hr, hset]

/-! ## The commands -/

/-- A request of the kind asked for, by the state and the answer of its effect. -/
theorem serve_answers {want : Decoded → Option Act} {s t : State} {r : Request} {rest : List Request} {act : Act}
    {a : Answer} (h : Serves s r rest) (hw : want (decodeRequest r.payload) = some act) (ha : act s = (t, a)) :
    whenRunning (serve want) s = .next (answered r rest a t) := by
  rw [serve_head h hw, ha]

/-- Settles O55, table by table: the write is accepted, and its effect is the state that the statement names. -/
theorem acceptedWritesReplaceTheEntry : Obligations.AcceptedWritesReplaceTheEntry := by
  intro s r rest bytes hs
  refine ⟨fun hd h1 h2 hr => ?_, fun e old v t hd he hr hold hv ht frames hframes => ?_, fun k e t hd he hr ht => ?_,
    fun b e air withdrawn t hd he hr hw hid hair ht => ?_, fun set i e hd he hr hset => ?_,
    fun set e hd he hr hset => ?_⟩
  · have hmode : s.running = false := by simp [← Bool.not_eq_true, running_iff, h1, h2]
    exact ⟨_, serve_answers hs (by rw [hd]) (writeLineAct_accepted hmode hr), applyLine_eq _ s⟩
  · subst he hold hv hframes
    have ht' : s.setStation (s.station.written (.ofBytes bytes)) = t := by
      rw [ht]; simp only [Station.written, Station.retarget, targetOf_eq]; rfl
    have hf := applyStation_eq (.ofBytes bytes) s
    simp only [stationFrames, outOfRange_iff, ht'] at hf
    rw [← hf]
    exact serve_answers hs (by rw [hd]) (writeStationAct_accepted hr)
  · subst he
    have ht' : s.setStation ({ s.station with bands := s.station.bands.set k (.ofBytes bytes) } : Station).retarget = t := by
      rw [ht]; simp only [Station.retarget, targetOf_eq]; rfl
    refine ⟨fun h => (serve_answers hs (by rw [hd]) (writeBandAct_accepted hr)).trans ?_,
      fun h => (serve_answers hs (by rw [hd]) (writeBandAct_accepted hr)).trans ?_⟩
    · rw [applyBand_present (by rwa [firing_iff]), ← ht']; rfl
    · rw [applyBand_other (by rwa [firing_iff]), ht']; rfl
  · rw [ht, ← applyBank_eq hw hair]
    exact serve_answers hs (by rw [hd]) (writeBankAct_accepted he hr fun h => hid ((running_iff s).1 h))
  · exact serve_answers hs (by rw [hd]) (writeRecipeAct_rule he hr fun h => hset ((running_iff s).1 h.1) h.2)
  · exact serve_answers hs (by rw [hd]) (writeRecipeAct_default he hr fun h => hset ((running_iff s).1 h.1) h.2)

end Sys2Proof.Machine

/-! The queues and the lanes: what every step keeps of them (R17, R154, R155, R162 to R165, R172, R179; logs 12, 17). -/

namespace Sys2Proof.Machine

/-! ## What the relations over queues and lanes read -/

/-- Two states with the same queues, the same frames on the lanes, and the ports and the proving run in the same state. -/
structure SameLanes (s t : State) : Prop where
  held : t.intake.held = s.intake.held
  requests : t.mgmt.queue = s.mgmt.queue
  reset : t.mgmt.softReset = s.mgmt.softReset
  returnQueue : t.portU.queue = s.portU.queue
  returnTx : t.portU.tx = s.portU.tx
  returnState : t.portU.link.state = s.portU.link.state
  fire : t.portD.fire = s.portD.fire
  drive : t.portD.drive = s.portD.drive
  relay : t.portD.relay = s.portD.relay
  forwardTx : t.portD.tx = s.portD.tx
  forwardState : t.portD.link.state = s.portD.link.state
  runPort : t.proving.run.map (·.port) = s.proving.run.map (·.port)

/-- A relation over the queues and lanes that the operations the blocks share keep: a frame joins the return queue or the
relay queue with room there, a DRIVE or FIRE frame is handed over, the request just executed leaves its queue. -/
structure LaneClosed (P : State → Prop) : Prop where
  same : ∀ {s t}, P s → SameLanes s t → P t
  joinReturn : ∀ (x : TxFrame) {s : State}, x.isResetAnswer = false →
    s.portU.queue.length < Config.returnCapacity → P s →
    P (offerReturn { s with portU := { s.portU with queue := s.portU.queue ++ [x] } })
  joinRelay : ∀ (bytes : List Byte) {s : State}, s.portD.relay.length < Config.relayCapacity → P s →
    P (offerForward { s with portD := { s.portD with relay := s.portD.relay ++ [bytes] } })
  issueDrive : ∀ st {s}, P s → P (issueDrive st s)
  handFire : ∀ b n {s}, P s → P (handFire b n s)
  dequeue : ∀ {s : State} {r rest}, P s → s.mgmt.queue = r :: rest → P { s with mgmt := { s.mgmt with queue := rest } }

theorem SameLanes.of_ports {s t : State}
    (h : t.intake.held = s.intake.held ∧ t.portU = s.portU ∧ t.portD = s.portD ∧ t.proving = s.proving
      ∧ t.mgmt.queue = s.mgmt.queue ∧ t.mgmt.softReset = s.mgmt.softReset) :
    SameLanes s t := by
  obtain ⟨hi, hu, hd, hp, hq, hr⟩ := h
  constructor <;> simp only [hi, hu, hd, hp, hq, hr]

/-- A new link in the same state, with other counts, marks or lock. -/
theorem sameLanes_setLink (s : State) (p : PortId) {l : Link} (h : l.state = (s.link p).state) :
    SameLanes s (s.setLink p l) := by
  cases p <;> constructor <;> simp_all

namespace LaneClosed

variable {P : State → Prop} (hP : LaneClosed P)

include hP

theorem of_same {s t : State} (h : P s) (hs : SameLanes s t) : P t ∧ t.mgmt.queue = s.mgmt.queue :=
  ⟨hP.same h hs, hs.requests⟩

/-! ## Flags, the feeder and the stations -/

theorem pushOwn (f : Frame) {s : State} (h : P s) : P (pushOwn f s) := by
  unfold Machine.pushOwn
  split
  · rename_i hroom
    exact hP.joinReturn _ rfl hroom h
  · exact hP.same h (by constructor <;> rfl)

theorem raiseOne (f : EventFlag) {s : State} (h : P s) : P (raiseOne f s) := by
  unfold Machine.raiseOne
  have hset : ∀ flags, P (setFlags flags s) := fun flags => hP.same h (.of_ports (by simp))
  split
  · exact h
  · dsimp only
    split
    · exact hP.pushOwn _ (hset _)
    · exact hset _

theorem raise (fs : List EventFlag) {s : State} (h : P s) : P (raise fs s) := by
  unfold Machine.raise
  generalize EventFlag.all.filter (fun f => f ∈ fs) = l
  induction l generalizing s with
  | nil => exact h
  | cons f l ih => exact ih (hP.raiseOne f h)

theorem setStation (st : Station) {s : State} (h : P s) : P (s.setStation st) :=
  hP.same h (.of_ports (by simp))

theorem setHolds (hs : HoldSet) {s : State} (h : P s) : P (setHolds hs s) := by
  unfold Machine.setHolds
  dsimp only
  split
  · exact hP.setStation _ h
  · exact hP.issueDrive _ (hP.setStation _ h)

theorem commandSplitter {s : State} (h : P s) : P (commandSplitter s) :=
  hP.issueDrive _ (hP.setStation _ h)

theorem issueAll {s : State} (h : P s) : P (issueAll s) :=
  hP.issueDrive _ (hP.issueDrive _ (hP.issueDrive _ h))

theorem advanceRing {s : State} (h : P s) : P (advanceRing s) := by
  unfold Machine.advanceRing
  dsimp only
  split <;> [skip; split]
  · exact hP.setStation _ h
  · exact hP.commandSplitter (hP.setStation _ h)
  · exact hP.setStation _ h

theorem takeStationMode (m : Mode) {s : State} (h : P s) : P (takeStationMode m s) := by
  unfold Machine.takeStationMode
  dsimp only
  split
  · exact hP.commandSplitter (hP.setHolds _ (hP.setStation _ h))
  · exact hP.setHolds _ (hP.setStation _ h)

theorem portUReport (r : LinkReport) {s : State} (h : P s) : P (portUReport r s) := by
  cases r <;> exact hP.setHolds _ (hP.setStation _ h)

theorem airReportTaken (b : BankIx) (on : Bool) {s : State} (h : P s) : P (airReportTaken b on s) :=
  hP.setHolds _ (hP.setStation _ h)

theorem applyStation (e : StationEntry) {s : State} (h : P s) : P (applyStation e s) := by
  rw [applyStation_eq]
  generalize stationFrames e s = l
  have h1 := hP.setStation (s.station.written e) h
  generalize s.setStation (s.station.written e) = s1 at h1
  induction l generalizing s1 with
  | nil => exact h1
  | cons i l ih => exact ih _ (hP.issueDrive i h1)

theorem applyBand (k : Fin 8) (e : BandEntry) {s : State} (h : P s) : P (applyBand k e s) := by
  unfold Machine.applyBand
  dsimp only
  split
  · exact hP.commandSplitter (hP.setStation _ h)
  · exact hP.setStation _ h

/-! ## The banks, and the changes of mode -/

theorem setBank (b : BankIx) (u : BankUnit) {s : State} (h : P s) : P (s.setBank b u) :=
  hP.same h (.of_ports (by simp))

theorem setBankHanded (b : BankIx) (g : BankHanded) {s : State} (h : P s) : P (s.setBankHanded b g) :=
  hP.same h (.of_ports (by simp))

theorem bankBoundary (b : BankIx) {s : State} (h : P s) : P (bankBoundary b s) := by
  unfold Machine.bankBoundary
  split
  · exact h
  · dsimp only
    split
    · exact hP.setBank _ _ (hP.setBankHanded _ _ h)
    · unfold boundaryInUse
      dsimp only
      split
      · exact hP.setBankHanded _ _ (hP.setBank _ _ (hP.handFire _ _ (hP.setBank _ _ (hP.setBankHanded _ _ h))))
      · exact hP.raise _
          (hP.setBankHanded _ _ (hP.setBank _ _ (hP.handFire _ _ (hP.setBank _ _ (hP.setBankHanded _ _ h)))))

theorem statusTaken (b : BankIx) (d : DriverStatus) {s : State} (h : P s) :
    P (let s2 := endHold b s
       let s3 := reportAir b (s2.setBank b (takeStatus d (s2.bank b)))
       if startsHold d (s2.bank b) then Machine.raise [.airLow] s3 else s3) := by
  have h3 : P (reportAir b ((endHold b s).setBank b (takeStatus d ((endHold b s).bank b)))) :=
    hP.same h (.of_ports (by simp))
  dsimp only
  split
  · exact hP.raise _ h3
  · exact h3

theorem allOffBank (b : BankIx) {s : State} (h : P s) : P (allOffBank s b) := by
  unfold Machine.allOffBank
  dsimp only
  split
  · exact h
  · exact hP.handFire _ _ (hP.setBank _ _ h)

theorem allOff {s : State} (h : P s) : P (allOff s) := by
  unfold Machine.allOff
  induction BankIx.all generalizing s with
  | nil => exact h
  | cons b bs ih => exact ih (hP.allOffBank b h)

theorem changeMode (m : Mode) {s : State} (h : P s) : P (changeMode m s) :=
  hP.same h (.of_ports (by simp))

theorem flushInto (m : Mode) {s : State} (h : P s) : P (flushInto m s) :=
  hP.same h (.of_ports (by simp))

theorem faultEntry (cause : FaultCause) {s : State} (h : P s) : P (faultEntry cause s) :=
  hP.same h (.of_ports (by simp))

theorem takeEmergencyStop {s : State} (h : P s) : P (takeEmergencyStop s) := by
  unfold Machine.takeEmergencyStop
  dsimp only
  split
  · exact hP.raise _ (hP.allOff h)
  · exact hP.raise _ (hP.faultEntry _ (hP.allOff h))

theorem readStop (stop : StopLevel) {s : State} (h : P s) : P (readStop stop s) := by
  have h1 : P { s with stopn := stop } := hP.same h (.of_ports (by simp))
  unfold Machine.readStop
  dsimp only
  split
  · exact hP.takeEmergencyStop h1
  · exact h1

theorem doStop {s : State} (h : P s) : P (doStop s).1 := by
  have h1 : P { s with mc := { s.mc with drainStart := s.pos.tp } } := hP.same h (.of_ports (by simp))
  unfold Machine.doStop
  split
  · dsimp only
    split
    · exact hP.raise _ (hP.changeMode _ h1)
    · exact hP.changeMode _ h1
  · exact hP.flushInto _ h
  · exact h

/-! ## Frames in, records and requests -/

theorem relayFrame (p : PortId) (bytes : List Byte) {s : State} (h : P s) : P (relayFrame p bytes s) := by
  cases p <;> unfold Machine.relayFrame <;> dsimp only <;> split
  case u.isTrue hroom => exact hP.joinRelay bytes hroom h
  case d.isTrue hroom => exact hP.joinReturn _ rfl hroom h
  all_goals exact hP.raise _ (hP.same h (by constructor <;> rfl))

theorem takeFrame (p : PortId) (bytes : List Byte) {s : State} (h : P s) : P (takeFrame p bytes s) := by
  have hset : ∀ l, l.state = (s.link p).state → P (s.setLink p l) := fun l hl => hP.same h (sameLanes_setLink s p hl)
  unfold Machine.takeFrame
  split <;> [skip; (split <;> [split; skip])]
  · exact hset _ rfl
  · exact hset _ rfl
  · unfold handOn
    split
    · exact hP.same h (.of_ports (by simp))
    · exact hP.same h (.of_ports (by simp))
    · exact hP.same h (by constructor <;> simp)
    · exact hset _ rfl
  · exact hP.relayFrame p bytes h

theorem refuse (why : Refused) {s : State} (h : P s) : P (refuse why s) :=
  hP.raise _ (hP.same h (.of_ports (by simp)))

theorem enterItem (r : Detection) (w : Winner) (plans : BankIx → Plan) {s : State} (h : P s) :
    P (enterItem r w plans s) := by
  unfold Machine.enterItem
  dsimp only
  exact hP.raise _ (hP.same h (.of_ports (by simp)))

theorem passRecord (w : Winner) (plans : BankIx → Plan) {s : State} (h : P s) : P (passRecord w plans s) := by
  unfold Machine.passRecord
  dsimp only
  exact hP.raise _ (hP.same h (.of_ports (by simp)))

theorem takeRecord (r : Detection) {s : State} (h : P s) : P (takeRecord r s) := by
  unfold Machine.takeRecord
  dsimp only
  have hc : ∀ c, P (s.setIntakeCounters c) := fun c => hP.same h (.of_ports (by simp))
  have hcc : ∀ c d, P ((s.setIntakeCounters c).setIntakeCounters d) := fun c d =>
    hP.same h (.of_ports (by simp))
  split <;> [skip; (split <;> [skip; (split <;> [skip; split])])]
  · exact hP.refuse _ (hc _)
  · exact hP.refuse _ (hc _)
  · exact hP.refuse _ (hcc _ _)
  · exact hP.refuse _ (hcc _ _)
  · have hclass : ∀ w c d, P (classify r w ((s.setIntakeCounters c).setIntakeCounters d)) :=
      fun w c d => hP.same h (.of_ports (by simp))
    unfold settleRecord
    split <;> [split; skip]
    · exact hP.refuse _ (hclass _ _ _)
    · exact hP.enterItem _ _ _ (hclass _ _ _)
    · exact hP.passRecord _ _ (hclass _ _ _)

theorem serve {want : Decoded → Option Act}
    (hact : ∀ d act, want d = some act → ∀ s, P s → P (act s).1 ∧ (act s).1.mgmt.queue = s.mgmt.queue) {s : State}
    (h : P s) : P (serve want s) := by
  obtain hh | ⟨r, rest, act, hq, -, hw, hh⟩ := serve_cases want s
  · rw [hh]; exact h
  · obtain ⟨hkeeps, hqueue⟩ := hact _ _ hw s h
    rw [hh]
    exact hP.pushOwn _ (hP.dequeue hkeeps (hqueue.trans hq))

end LaneClosed

/-! ## The operations that leave queues and lanes alone -/

theorem SameLanes.refl (s : State) : SameLanes s s := .of_ports (by simp)

@[simp] theorem sameLanes_feedChecker (want : Bool) (bits : List Bool) (s : State) :
    SameLanes s (feedChecker want bits s) := by
  have hrun : (feedChecker want bits s).proving.run.map (·.port) = s.proving.run.map (·.port) := by
    unfold feedChecker
    split
    · rename_i port role c h
      split
      · simp [h]
      · rfl
    · rfl
  constructor <;> simp [hrun]

@[simp] theorem sameLanes_clearLink (s : State) : SameLanes s (clearLink s) := by
  constructor <;> rfl

theorem sameLanes_clearGroup {g : GroupId} {bank : Nat} {s t : State} (h : clearGroup g bank s = some t) :
    SameLanes s t := by
  cases g <;> dsimp only [clearGroup] at h
  case link => cases h; exact sameLanes_clearLink s
  case bank => split at h <;> cases h; exact .of_ports (by simp)
  all_goals cases h; exact .of_ports (by simp)

@[simp] theorem sameLanes_writeLineAct (i : Nat) (entry : List Byte) (s : State) :
    SameLanes s (writeLineAct i entry s).1 := by
  unfold writeLineAct
  split <;> [skip; (split <;> [skip; split])] <;> (constructor <;> rfl)

@[simp] theorem sameLanes_writeBankAct (i : Nat) (entry : List Byte) (s : State) :
    SameLanes s (writeBankAct i entry s).1 := by
  unfold writeBankAct
  repeat' split
  all_goals exact .of_ports (by simp)

@[simp] theorem sameLanes_writeRecipeAct (set : Fin 2) (i : Nat) (entry : List Byte) (s : State) :
    SameLanes s (writeRecipeAct set i entry s).1 := by
  unfold writeRecipeAct
  repeat' split
  all_goals exact .of_ports (by simp)

@[simp] theorem sameLanes_selectSetAct (n : Nat) (s : State) : SameLanes s (selectSetAct n s).1 := by
  unfold selectSetAct
  split <;> exact .of_ports (by simp)

@[simp] theorem sameLanes_clearEventsAct (named : BitVec 15) (s : State) : SameLanes s (clearEventsAct named s).1 := by
  constructor <;> rfl

@[simp] theorem sameLanes_setMaskAct (mask : BitVec 15) (s : State) : SameLanes s (setMaskAct mask s).1 := by
  constructor <;> rfl

@[simp] theorem sameLanes_doStart (s : State) : SameLanes s (doStart s).1 :=
  (.of_ports (by simp))

@[simp] theorem sameLanes_doClearFault (stop : StopLevel) (s : State) :
    SameLanes s (doClearFault stop { s with stopn := stop }).1 :=
  (.of_ports (by simp))

/-- The commands that send frames, change a port's state, hold or take a DETECT frame or a request, or reset the part. -/
def movesLanes : Instr → Bool
  | .powerOn .. | .detectFrame | .detectRecord | .signalDetected _ | .receiverLocked _
  | .partnerReadyChange .. | .signalLoss _ | .monitorWindowClose _ | .portDFrameSent | .portUFrameSent | .provingExpiry
  | .requestArrival | .prove | .softReset | .softResetPerformed _ => true
  | _ => false

/-- Every other command keeps such a relation: by the frame lemmas it leaves queues and lanes alone, but for flags, DRIVE and
FIRE frames, and answers. -/
theorem LaneClosed.exec_keeps {P : State → Prop} (hP : LaneClosed P) {c : Instr} (hc : movesLanes c = false) {s t : State}
    (h : P s) (he : exec c s = .next t) : P t := by
  cases c <;> dsimp only [exec] at he
  case powerOn | detectFrame | detectRecord | signalDetected | receiverLocked | partnerReadyChange
      | signalLoss | monitorWindowClose | portDFrameSent | portUFrameSent | provingExpiry | requestArrival | prove
      | softReset | softResetPerformed => cases hc
  case resetnAsserted => cases he; exact hP.same h (.of_ports (by simp))
  case readLine | readStation | readBand | readBank | readRecipe | readTrack | readWindows | writeTrack | writeWindows
      | unknownRequest | readStatus | readCounters =>
    refine whenRunning_keeps h (hP.serve fun d act hw s h => ?_) he
    split at hw <;> cases hw
    exact ⟨h, rfl⟩
  case start | clearFault | writeLine | writeBank | writeRecipe | selectSet | clearEvents | setMask =>
    refine whenRunning_keeps h (hP.serve fun d act hw s h => ?_) he
    split at hw <;> cases hw
    exact hP.of_same h (by simp)
  case stop =>
    refine whenRunning_keeps h (hP.serve fun d act hw s h => ?_) he
    split at hw <;> cases hw
    exact ⟨hP.doStop h, by simp⟩
  case writeStation =>
    refine whenRunning_keeps h (hP.serve fun d act hw s h => ?_) he
    split at hw <;> cases hw
    unfold writeStationAct
    split <;> [skip; split]
    · exact ⟨h, rfl⟩
    · exact ⟨h, rfl⟩
    · exact ⟨hP.applyStation _ h, by simp⟩
  case writeBand =>
    refine whenRunning_keeps h (hP.serve fun d act hw s h => ?_) he
    split at hw <;> cases hw
    unfold writeBandAct
    split <;> [split; skip]
    · exact ⟨h, rfl⟩
    · exact ⟨hP.applyBand _ _ h, by simp⟩
    · exact ⟨h, rfl⟩
  case clearCounters =>
    refine whenRunning_keeps h (hP.serve fun d act hw s h => ?_) he
    split at hw <;> cases hw
    unfold clearCountersAct
    split
    · rename_i hg
      exact hP.of_same h (sameLanes_clearGroup hg)
    · exact ⟨h, rfl⟩
  case holdFeed | releaseFeed =>
    refine whenRunning_keeps h (hP.serve fun d act hw s h => ?_) he
    split at hw <;> cases hw
    exact ⟨hP.setHolds _ h, by simp [operatorAct]⟩
  case slotBoundary part =>
    refine whenRunning_keeps h (fun h => ?_) he
    cases part with
    | clock => exact hP.same h (.of_ports (by simp))
    | bank b => exact hP.bankBoundary b h
  case statusFrame b =>
    refine whenRunning_keeps h (fun h => ?_) he
    split
    · exact h
    · dsimp only
      split
      · exact hP.setBankHanded _ _ h
      · exact hP.statusTaken _ _ (hP.setBankHanded _ _ h)
  case frameReceived p bytes =>
    refine whenRunning_keeps h (fun h => ?_) he
    split
    · exact hP.takeFrame p bytes h
    · exact h
  case codeError p inFrame =>
    refine whenRunning_keeps h (fun h => ?_) he
    dsimp only
    split
    · exact hP.same h (sameLanes_setLink s p rfl)
    · exact h
  case checkerSync | checkerMismatch =>
    exact whenRunning_keeps h (fun h => hP.same h (sameLanes_feedChecker _ _ s)) he
  case binClose =>
    refine whenRunning_keeps h (fun h => ?_) he
    have hclose : P { s with pos := closeBin s.mgmt.line s.pos } := hP.same h (.of_ports (by simp))
    dsimp only
    split
    · exact hP.raise _ hclose
    · exact hclose
  case reverseCount =>
    refine whenRunning_keeps h (fun h => ?_) he
    unfold reverseStep
    dsimp only
    split
    · exact hP.raise _ (hP.same h (.of_ports (by simp)))
    · exact hP.same h (.of_ports (by simp))
  case encoderFault =>
    refine whenRunning_keeps h (fun h => ?_) he
    have htaken : P { s with handed := { s.handed with encoder := s.handed.encoder - 1 } } :=
      hP.same h (.of_ports (by simp))
    split <;> [skip; (dsimp only; split)]
    · exact h
    · exact hP.raise _ htaken
    · exact hP.raise _ (hP.faultEntry _ htaken)
  case beltReversal =>
    refine whenRunning_keeps h (fun h => ?_) he
    have htaken : P { s with handed := { s.handed with reversal := s.handed.reversal - 1 } } :=
      hP.same h (.of_ports (by simp))
    split <;> [skip; (dsimp only; split)]
    · exact h
    · exact hP.raise _ (hP.faultEntry _ htaken)
    · exact htaken
  case trackEmptyReport =>
    refine whenRunning_keeps h (fun h => ?_) he
    have htaken : P { s with handed := { s.handed with trackEmpty := s.handed.trackEmpty - 1 } } :=
      hP.same h (.of_ports (by simp))
    split <;> [skip; (dsimp only; split)]
    · exact h
    · exact hP.raise _ (hP.changeMode _ htaken)
    · exact htaken
  case drainTimeout =>
    refine whenRunning_keeps h (fun h => ?_) he
    split
    · exact hP.raise _ (hP.flushInto _ h)
    · exact h
  case blindSpanBegin =>
    refine whenRunning_keeps h (fun h => ?_) he
    split <;> [(dsimp only; split); skip]
    · exact hP.raise _ (hP.same h (.of_ports (by simp)))
    · exact hP.same h (.of_ports (by simp))
    · exact h
  case emergencyStop =>
    refine whenRunning_keeps h (fun h => ?_) he
    have hstop : P { s with stopn := .asserted } := hP.same h (.of_ports (by simp))
    exact hP.takeEmergencyStop hstop
  case stationTick =>
    refine whenRunning_keeps h (fun h => ?_) he
    split
    · exact h
    · exact hP.issueDrive _ (hP.setStation _ h)
  case ringAdvance =>
    refine whenRunning_keeps h (fun h => ?_) he
    split
    · exact h
    · exact hP.advanceRing (hP.same h (.of_ports (by simp)))
  case stationModeChange =>
    refine whenRunning_keeps h (fun h => ?_) he
    split
    · exact h
    · exact hP.takeStationMode _ (hP.same h (.of_ports (by simp)))
  case portDLinked =>
    refine whenRunning_keeps h (fun h => ?_) he
    split
    · exact hP.issueAll (hP.same h (.of_ports (by simp)))
    · exact h
  case holdReasonReport src =>
    refine whenRunning_keeps h (fun h => ?_) he
    cases src <;> dsimp only
    case itemTrack =>
      split
      · exact h
      · exact hP.setHolds _ (hP.same h (.of_ports (by simp)))
    case portD =>
      split
      · exact hP.setHolds _ (hP.same h (.of_ports (by simp)))
      · exact h
    case portU =>
      split
      · exact h
      · exact hP.portUReport _ (hP.same h (.of_ports (by simp)))
    case bank b =>
      split
      · exact h
      · exact hP.airReportTaken _ _ (hP.setBankHanded _ _ h)
  case retirementReport b =>
    refine whenRunning_keeps h (fun h => ?_) he
    split <;> [skip; (dsimp only; (split <;> [skip; split]))]
    · exact h
    · exact hP.same h (.of_ports (by simp))
    all_goals exact hP.same h (.of_ports (by simp))
  all_goals
    refine whenRunning_keeps h (fun h => ?_) he
    (repeat' split) <;>
      exact hP.same h (.of_ports (by simp))

/-! ## The queues within their capacities -/

theorem offerReturn_queue_suffix (s : State) : (offerReturn s).portU.queue <:+ s.portU.queue := by
  unfold offerReturn startReturn
  split
  · split
    · exact List.suffix_refl _
    · rename_i f rest hq
      rw [hq]
      exact List.suffix_cons f rest
  · exact List.suffix_refl _

theorem offerForward_suffix (s : State) :
    (offerForward s).portD.drive <:+ s.portD.drive ∧ (offerForward s).portD.relay <:+ s.portD.relay := by
  unfold offerForward startForward
  split <;> [split; skip]
  · exact ⟨List.suffix_refl _, List.suffix_refl _⟩
  · split <;> [skip; split]
    · rename_i x f rest hd
      rw [hd]
      exact ⟨List.suffix_cons _ rest, List.suffix_refl _⟩
    · rename_i bytes rest hr
      rw [hr]
      exact ⟨List.suffix_refl _, List.suffix_cons bytes rest⟩
    · exact ⟨List.suffix_refl _, List.suffix_refl _⟩
  · exact ⟨List.suffix_refl _, List.suffix_refl _⟩

/-- Queues that only lose frames stay within their capacities. -/
theorem QueueInv.of_suffix {s t : State} (h : QueueInv s)
    (hheld : t.intake.held.length ≤ s.intake.held.length := by simp)
    (hreq : t.mgmt.queue.length ≤ s.mgmt.queue.length := by simp) (hrelay : t.portD.relay <:+ s.portD.relay := by simp)
    (hret : t.portU.queue <:+ s.portU.queue := by simp) (hdrive : t.portD.drive <:+ s.portD.drive := by simp)
    (hreset : ∀ f, t.mgmt.softReset = .due (some f) → s.mgmt.softReset = .due (some f) := by simp) : QueueInv t := by
  obtain ⟨h1, h2, h3, h4, h5, h6⟩ := h
  exact ⟨hheld.trans h1, hreq.trans h2, hrelay.length_le.trans h3, hret.length_le.trans h4,
    h5.sublist (hdrive.sublist.map _), fun f hf x hx => h6 f (hreset f hf) x (hret.subset hx)⟩

theorem QueueInv.offerReturn {s : State} (h : QueueInv s) : QueueInv (offerReturn s) :=
  h.of_suffix (hret := offerReturn_queue_suffix s)

theorem QueueInv.offerForward {s : State} (h : QueueInv s) : QueueInv (offerForward s) :=
  h.of_suffix (hrelay := (offerForward_suffix s).2) (hdrive := (offerForward_suffix s).1)

theorem queueInv_issueDrive (st : StationId) {s : State} (h : QueueInv s) : QueueInv (issueDrive st s) := by
  unfold issueDrive
  split
  · refine QueueInv.offerForward ?_
    obtain ⟨h1, h2, h3, h4, h5, h6⟩ := h
    refine ⟨h1, h2, h3, h4, ?_, h6⟩
    simp only [List.map_append, List.map_cons, List.map_nil]
    refine List.Nodup.append (h5.sublist (List.filter_sublist.map _)) (List.nodup_singleton _) ?_
    simp
  · exact h

theorem queueInv_laneClosed : LaneClosed QueueInv where
  same h hs := h.of_suffix (by rw [hs.held]) (by rw [hs.requests]) (by rw [hs.relay]) (by rw [hs.returnQueue])
    (by rw [hs.drive]) (by rw [hs.reset]; exact fun _ hf => hf)
  joinReturn x s hx hroom h := by
    refine QueueInv.offerReturn ?_
    obtain ⟨h1, h2, h3, h4, h5, h6⟩ := h
    refine ⟨h1, h2, h3, by rw [List.length_append]; exact hroom, h5, fun f hf y hy => ?_⟩
    obtain hy | hy := List.mem_append.1 hy
    · exact h6 f hf y hy
    · rw [List.mem_singleton.1 hy]; exact hx
  joinRelay bytes s hroom h := by
    refine QueueInv.offerForward ?_
    obtain ⟨h1, h2, h3, h4, h5, h6⟩ := h
    exact ⟨h1, h2, by rw [List.length_append]; exact hroom, h4, h5, h6⟩
  issueDrive st _ h := queueInv_issueDrive st h
  handFire b n s h := by
    unfold handFire
    dsimp only
    split
    · exact QueueInv.offerForward (h.of_suffix)
    · exact h
  dequeue h hq := h.of_suffix (hreq := by simp [hq])

/-! ## The commands that send frames or change a port's state, and the queues -/

theorem nextRecord_length {frames held : List (List Detection)} {r : Detection}
    (h : nextRecord frames = some (r, held)) : held.length ≤ frames.length := by
  fun_induction nextRecord frames with
  | case1 => cases h
  | case2 frames ih => exact (ih h).trans (Nat.le_succ _)
  | case3 r frames => cases h; exact Nat.le_succ _
  | case4 => cases h; exact Nat.le_refl _

theorem QueueInv.resetDue {s : State} (h : QueueInv s) : QueueInv (resetDue s) := by
  unfold Machine.resetDue
  split
  · exact h.of_suffix
  · exact h

theorem QueueInv.setLink {s : State} (h : QueueInv s) (p : PortId) (l : Link) : QueueInv (s.setLink p l) :=
  h.of_suffix

/-- A port that leaves LINKED: the return and relay queues stay, the DRIVE frames of Port D go (R156). -/
theorem QueueInv.leaveEffects {s : State} (h : QueueInv s) (p : PortId) : QueueInv (leaveEffects p s) := by
  cases p with
  | u => exact QueueInv.resetDue (h.of_suffix)
  | d => exact h.of_suffix (hdrive := List.nil_suffix) (hreset := by simp [Machine.leaveEffects])

theorem QueueInv.finishReturn {s : State} (h : QueueInv s) : QueueInv (finishReturn s) := by
  have hsent : QueueInv { s with portU := { s.portU with tx := none } } :=
    h.of_suffix
  unfold Machine.finishReturn
  dsimp only
  split
  · exact hsent.resetDue
  · exact hsent

theorem QueueInv.doProve {s : State} (h : QueueInv s) (port role n : Nat) : QueueInv (doProve port role n s).1 := by
  have hP := queueInv_laneClosed
  unfold Machine.doProve
  split <;> [skip; (split <;> [(split <;> [skip; split]); skip])]
  case h_1.isFalse.isFalse =>
    rename_i p r _ _ _ _
    refine hP.changeMode _ ?_
    have hrun : QueueInv { s.setLink p (enterProving r (s.link p)) with
        proving := ⟨some ⟨p, r, newEngine r⟩, some ⟨p, r, n, 0, false, .running⟩⟩ } :=
      (h.setLink p (enterProving r (s.link p))).of_suffix
    unfold startRun
    dsimp only
    split
    · exact hP.raise _ (hrun.leaveEffects p)
    · exact hrun
  all_goals exact h

theorem QueueInv.becomeLinked {s : State} (h : QueueInv s) (p : PortId) : QueueInv (becomeLinked p s) := by
  have hl := h.setLink p ((s.link p).enter .linked)
  cases p with
  | u => exact QueueInv.offerReturn (hl.of_suffix)
  | d => exact QueueInv.offerForward (hl.of_suffix)

/-- A SOFT RESET is accepted: its answer joins the queue, or finds it full and is kept aside, when the answers of earlier
resets have become ordinary frames (R179; log 12). -/
theorem QueueInv.acceptReset {s : State} (h : QueueInv s) (r : Request) : QueueInv (acceptReset r s) := by
  have hsettled : ∀ x ∈ s.portU.queue.map TxFrame.settled, x.isResetAnswer = false := by
    intro x hx
    obtain ⟨y, -, rfl⟩ := List.mem_map.1 hx
    cases y <;> rfl
  obtain ⟨h1, h2, h3, h4, h5, h6⟩ := h
  unfold Machine.acceptReset
  dsimp only
  split
  · rename_i hroom
    refine QueueInv.offerReturn ⟨h1, h2, h3, by rw [List.length_append]; exact hroom, h5, fun f hf => ?_⟩
    split at hf <;> cases hf
  · exact ⟨h1, h2, h3, by simpa using h4, h5, fun f _ => hsettled⟩

/-- The reset keeps one answer aside only when the queue holds none (log 12), so what it keeps fits the return queue. -/
theorem QueueInv.keptAnswers_length {s : State} (h : QueueInv s) {kept : Option Frame}
    (hdue : s.mgmt.softReset = .due kept) : (keptAnswers kept s.portU.queue).length ≤ 8 := by
  obtain ⟨-, -, -, h4, -, h6⟩ := h
  have hfilter := List.length_filter_le TxFrame.isResetAnswer s.portU.queue
  unfold keptAnswers
  cases kept with
  | none => simpa using hfilter.trans h4
  | some f =>
    have hnone : s.portU.queue.filter TxFrame.isResetAnswer = [] := by
      rw [List.filter_eq_nil_iff]
      intro x hx
      simp [h6 f hdue x hx]
    simp [hnone]

theorem QueueInv.resetBlocks {s : State} (h : QueueInv s) {kept : Option Frame} (hdue : s.mgmt.softReset = .due kept) :
    QueueInv (resetBlocks kept s) := by
  unfold Machine.resetBlocks
  dsimp only
  refine queueInv_laneClosed.setHolds _ (queueInv_laneClosed.setStation _ (QueueInv.offerReturn ?_))
  have hkept := h.keptAnswers_length hdue
  exact ⟨by simp, by simp, by simp [resetPorts], by simpa [resetPorts] using hkept, by simp [resetPorts], by simp⟩

theorem queueInv_powerOn (straps : BitVec 4) (enc : EncPair) (stop : StopLevel) (pending : List Instr) :
    QueueInv (.powerOn straps enc stop pending) := by
  refine ⟨by simp [State.powerOn], by simp [State.powerOn, Management.powerOn], by simp [State.powerOn],
    by simp [State.powerOn], by simp [State.powerOn], by simp [State.powerOn]⟩

/-- Every command keeps the queues in capacity: those that send frames or change a port's state only take frames away from
them, DETECT_FRAME and REQUEST_ARRIVAL look for room, and the others keep every relation over queues and lanes. -/
theorem exec_queueInv {c : Instr} {s t : State} (h : QueueInv s) (he : exec c s = .next t) : QueueInv t := by
  have hP := queueInv_laneClosed
  by_cases hc : movesLanes c = false
  · exact hP.exec_keeps hc h he
  cases c <;> first | exact absurd rfl hc | dsimp only [exec] at he
  case powerOn straps enc stop =>
    cases he
    exact hP.readStop _ (queueInv_powerOn straps enc stop s.pending)
  case detectFrame =>
    refine whenRunning_keeps h (fun h => ?_) he
    split <;> [skip; (dsimp only; split)]
    · exact h
    · rename_i hroom
      obtain ⟨h1, h2, h3, h4, h5, h6⟩ := h
      exact ⟨by rw [List.length_append]; exact hroom, h2, h3, h4, h5, h6⟩
    · exact hP.raise _ (hP.same h (.of_ports (by simp)))
  case detectRecord =>
    refine whenRunning_keeps h (fun h => ?_) he
    split
    · exact h
    · rename_i hnext
      exact hP.takeRecord _ (h.of_suffix (hheld := nextRecord_length hnext))
  case requestArrival =>
    refine whenRunning_keeps h (fun h => ?_) he
    split <;> [skip; (dsimp only; split)]
    · exact h
    · rename_i hroom
      obtain ⟨h1, h2, h3, h4, h5, h6⟩ := h
      exact ⟨h1, by rw [List.length_append]; exact hroom, h3, h4, h5, h6⟩
    · exact hP.pushOwn _ (hP.same h (.of_ports (by simp)))
  case signalDetected p =>
    exact whenRunning_keeps h (fun h => h.setLink p _) he
  case receiverLocked p =>
    refine whenRunning_keeps h (fun h => ?_) he
    dsimp only
    split <;> [split; split; skip; skip]
    · exact (h.setLink p _).becomeLinked p
    · exact h.setLink p _
    · exact h
    · exact h.setLink p _
    · exact h
    · exact h
  case partnerReadyChange p mark =>
    refine whenRunning_keeps h (fun h => ?_) he
    dsimp only
    split <;> [split; split; split; skip]
    · exact (h.setLink p _).becomeLinked p
    · exact h.setLink p _
    · exact h.setLink p _
    · exact hP.raise _ (((h.setLink p _).setLink p _).leaveEffects p)
    · exact h
    · exact h.setLink p _
    · exact h
  case signalLoss p =>
    refine whenRunning_keeps h (fun h => ?_) he
    dsimp only
    split
    · exact hP.raise _ (((h.setLink p _).setLink p _).leaveEffects p)
    · exact h.setLink p _
    · exact h.setLink p _
    · exact h.setLink p _
  case monitorWindowClose p =>
    refine whenRunning_keeps h (fun h => ?_) he
    dsimp only
    split <;> [split; skip]
    · exact hP.raise _ (((h.setLink p _).setLink p _).leaveEffects p)
    · exact hP.raise _ (h.setLink p _)
    · exact h.setLink p _
  case portDFrameSent =>
    refine whenRunning_keeps h (fun h => ?_) he
    exact QueueInv.offerForward (h.of_suffix)
  case portUFrameSent =>
    exact whenRunning_keeps h (fun h => h.finishReturn.offerReturn) he
  case provingExpiry =>
    refine whenRunning_keeps h (fun h => ?_) he
    split
    · exact h
    · exact h.of_suffix
  case prove =>
    refine whenRunning_keeps h (hP.serve fun d act hw s h => ?_) he
    split at hw <;> cases hw
    exact ⟨h.doProve _ _ _, by simp⟩
  case softReset =>
    refine whenRunning_keeps h (fun h => ?_) he
    split <;> [skip; (split <;> [skip; split])]
    · exact h
    · exact h
    · exact h.acceptReset _
    · exact h
  case softResetPerformed stop =>
    refine whenRunning_keeps h (fun h => ?_) he
    split
    · rename_i hdue
      exact hP.readStop _ (h.resetBlocks hdue)
    · exact h
    · exact h

/-! ## A free lane of a LINKED port has nothing waiting for it -/

/-- Port D's part of the relation: no frame on the lane outside LINKED, and nothing waiting for a free lane in LINKED. -/
def ForwardSettled (s : State) : Prop :=
  (s.portD.link.state ≠ .linked → s.portD.tx = none)
    ∧ (s.portD.link.state = .linked → s.portD.tx = none → s.forwardIdle)

/-- Port U's part, where nothing starts while a SOFT RESET is due (log 12). -/
def ReturnSettled (s : State) : Prop :=
  (s.portU.link.state ≠ .linked → s.portU.tx = none)
    ∧ (s.portU.link.state = .linked → s.portU.tx = none → s.mgmt.softReset.isDue = false → s.portU.queue = [])

/-- The port of a proving run is in PROVING. -/
def RunSettled (s : State) : Prop := ∀ run, s.proving.run = some run → (s.link run.port).state = .proving

theorem isDue_eq_false_iff (r : SoftReset) : r.isDue = false ↔ ∀ kept, r ≠ .due kept := by
  cases r <;> simp [SoftReset.isDue]

theorem freeLaneInv_iff (s : State) : FreeLaneInv s ↔ ForwardSettled s ∧ ReturnSettled s ∧ RunSettled s := by
  unfold FreeLaneInv ForwardSettled ReturnSettled RunSettled
  simp only [isDue_eq_false_iff, State.link_d, State.link_u]
  tauto

theorem ForwardSettled.congr {s t : State} (h : ForwardSettled s) (hd : t.portD = s.portD) : ForwardSettled t := by
  simpa [ForwardSettled, State.forwardIdle, hd] using h

theorem ReturnSettled.congr {s t : State} (h : ReturnSettled s) (hu : t.portU = s.portU)
    (hr : t.mgmt.softReset = s.mgmt.softReset) : ReturnSettled t := by
  simpa [ReturnSettled, hu, hr] using h

theorem RunSettled.congr {s t : State} (h : RunSettled s) (hl : ∀ p, (t.link p).state = (s.link p).state)
    (hr : t.proving.run.map (·.port) = s.proving.run.map (·.port)) : RunSettled t := by
  intro run ht
  obtain ⟨run', hs, hport⟩ : ∃ r, s.proving.run = some r ∧ r.port = run.port := by
    simpa [ht] using hr.symm
  rw [hl, ← hport]
  exact h run' hs

/-- Offering the forward lane settles it, wherever a frame is on it in LINKED alone (R163). -/
theorem forwardSettled_offerForward {s : State} (h : s.portD.link.state ≠ .linked → s.portD.tx = none) :
    ForwardSettled (offerForward s) := by
  refine ⟨fun hl => ?_, fun hl ht => offerForward_empties (by simpa using hl) ht⟩
  have hl' : (s.link .d).state ≠ .linked := by simpa using hl
  rw [offerForward_held (.inl hl')]
  exact h hl'

/-- Offering the return lane settles it (R164). -/
theorem returnSettled_offerReturn {s : State} (h : s.portU.link.state ≠ .linked → s.portU.tx = none) :
    ReturnSettled (offerReturn s) := by
  refine ⟨fun hl => ?_, fun hl ht hr => offerReturn_empties (by simpa using hl) ht (by simpa using hr)⟩
  have hl' : (s.link .u).state ≠ .linked := by simpa using hl
  rw [offerReturn_held (.inl hl')]
  exact h hl'

/-- New frames wait at Port D, and its lane is offered to them. -/
theorem FreeLaneInv.offerForward {s : State} (h : FreeLaneInv s) {d : PortD} (hl : d.link = s.portD.link)
    (ht : d.tx = s.portD.tx) : FreeLaneInv (offerForward { s with portD := d }) := by
  rw [freeLaneInv_iff] at h ⊢
  obtain ⟨hforward, hreturn, hrun⟩ := h
  refine ⟨forwardSettled_offerForward ?_, hreturn.congr (by simp) (by simp), hrun.congr (fun p => ?_) (by simp)⟩
  · simpa only [hl, ht] using hforward.1
  · cases p <;> simp [hl]

theorem freeLaneInv_laneClosed : LaneClosed FreeLaneInv where
  same {s t} h hs := by
    rw [freeLaneInv_iff] at h ⊢
    obtain ⟨hforward, hreturn, hrun⟩ := h
    refine ⟨?_, ?_, hrun.congr (fun p => ?_) hs.runPort⟩
    · simpa [ForwardSettled, State.forwardIdle, hs.forwardState, hs.forwardTx, hs.fire, hs.drive, hs.relay] using hforward
    · simpa [ReturnSettled, hs.returnState, hs.returnTx, hs.reset, hs.returnQueue] using hreturn
    · cases p
      · exact hs.returnState
      · exact hs.forwardState
  joinReturn x s _ _ h := by
    rw [freeLaneInv_iff] at h ⊢
    obtain ⟨hforward, hreturn, hrun⟩ := h
    refine ⟨hforward.congr (by simp), returnSettled_offerReturn hreturn.1, hrun.congr (fun p => ?_) (by simp)⟩
    cases p <;> simp
  joinRelay bytes s _ h := h.offerForward rfl rfl
  issueDrive st s h := by
    unfold issueDrive
    split
    · exact h.offerForward rfl rfl
    · exact h
  handFire b n s h := by
    unfold handFire
    dsimp only
    split
    · exact h.offerForward rfl rfl
    · exact h
  dequeue h _ := h

/-! ## The commands that send frames or change a port's state, and the lanes -/

theorem State.link_setLink_ne (s : State) {p q : PortId} (h : q ≠ p) (l : Link) : (s.setLink p l).link q = s.link q := by
  cases p <;> cases q <;> first | rfl | exact absurd rfl h

theorem cutReturn_tx (s : State) : (cutReturn s).portU.tx = none := by
  unfold cutReturn
  split
  · assumption
  · split <;> rfl

theorem becomeLinked_link (p q : PortId) (s : State) :
    (becomeLinked p s).link q = (s.setLink p ((s.link p).enter .linked)).link q := by
  cases p <;> simp only [becomeLinked, offerReturn_frame_at, offerForward_frame_at, reportU_frame_at, reportD_frame_at]

theorem runSettled_setLink {s : State} (h : RunSettled s) {p : PortId} {l : Link}
    (hl : (s.link p).state = .proving → l.state = .proving) : RunSettled (s.setLink p l) := by
  intro run hr
  have hs := h run (by simpa using hr)
  by_cases hp : run.port = p
  · subst hp
    simpa using hl hs
  · rw [State.link_setLink_ne s hp]; exact hs

/-- A port outside LINKED goes to a state outside LINKED; its lane has no frame before and after, and the other port is
untouched. -/
theorem FreeLaneInv.moved {s t : State} (h : FreeLaneInv s) {p : PortId} (hs : (s.link p).state ≠ .linked)
    (ht : (t.link p).state ≠ .linked) (htx : t.tx p = s.tx p) (hu : p = .u → t.portD = s.portD)
    (hd : p = .d → t.portU = s.portU) (hreset : t.mgmt.softReset = s.mgmt.softReset) (hrun : RunSettled t) :
    FreeLaneInv t := by
  rw [freeLaneInv_iff] at h ⊢
  obtain ⟨hforward, hreturn, -⟩ := h
  cases p with
  | u => exact ⟨hforward.congr (hu rfl), ⟨fun _ => htx.trans (hreturn.1 hs), fun h => absurd h ht⟩, hrun⟩
  | d => exact ⟨⟨fun _ => htx.trans (hforward.1 hs), fun h => absurd h ht⟩, hreturn.congr (hd rfl) hreset, hrun⟩

theorem State.tx_setLink (s : State) (p : PortId) (l : Link) : (s.setLink p l).tx p = s.tx p := by
  cases p <;> rfl

/-- A port outside LINKED and PROVING enters another state outside LINKED. -/
theorem FreeLaneInv.setLink {s : State} (h : FreeLaneInv s) {p : PortId} {l : Link} (hs : (s.link p).state ≠ .linked)
    (hp : (s.link p).state ≠ .proving) (hl : l.state ≠ .linked) : FreeLaneInv (s.setLink p l) :=
  h.moved hs (by simpa using hl) (s.tx_setLink p l) (by rintro rfl; rfl) (by rintro rfl; rfl) (by simp)
    (runSettled_setLink ((freeLaneInv_iff s).1 h).2.2 fun hp' => absurd hp' hp)

theorem FreeLaneInv.becomeLinked {s : State} (h : FreeLaneInv s) {p : PortId} (hs : (s.link p).state = .training) :
    FreeLaneInv (becomeLinked p s) := by
  rw [freeLaneInv_iff] at h ⊢
  obtain ⟨hforward, hreturn, hrun⟩ := h
  have hrun' : RunSettled (s.setLink p ((s.link p).enter .linked)) := runSettled_setLink hrun fun hp => by simp [hs] at hp
  cases p with
  | u =>
    have hfree : s.portU.tx = none := hreturn.1 (by simp_all)
    exact ⟨hforward.congr (by simp [Machine.becomeLinked]), returnSettled_offerReturn fun _ => by simpa using hfree,
      hrun'.congr (fun q => by rw [becomeLinked_link]) (by simp)⟩
  | d =>
    have hfree : s.portD.tx = none := hforward.1 (by simp_all)
    exact ⟨forwardSettled_offerForward fun _ => by simpa using hfree,
      hreturn.congr (by simp [Machine.becomeLinked]) (by simp), hrun'.congr (fun q => by rw [becomeLinked_link]) (by simp)⟩

/-- A port that has left LINKED: the frame on its lane is cut off, and the other port is untouched (R156). -/
theorem freeLaneInv_leaveEffects {s : State} {p : PortId} (hl : (s.link p).state ≠ .linked)
    (hu : p = .u → ForwardSettled s) (hd : p = .d → ReturnSettled s) (hrun : RunSettled s) :
    FreeLaneInv (leaveEffects p s) := by
  rw [freeLaneInv_iff]
  have hrun' : RunSettled (leaveEffects p s) := hrun.congr (by simp) (by simp)
  cases p with
  | u =>
    have hcut : (leaveEffects .u s).portU.tx = none := by simp [leaveEffects, reportU, cutReturn_tx]
    exact ⟨(hu rfl).congr (by simp [leaveEffects]), ⟨fun _ => hcut, fun h => absurd (by simpa using h) hl⟩, hrun'⟩
  | d =>
    exact ⟨⟨fun _ => rfl, fun h => absurd (by simpa using h) hl⟩,
      (hd rfl).congr (by simp [leaveEffects]) (by simp [leaveEffects]), hrun'⟩

/-- A LINKED port drops its link (R155, R156). -/
theorem FreeLaneInv.dropLink {s : State} (h : FreeLaneInv s) {p : PortId} {st : PortState} (hs : (s.link p).state = .linked)
    (hst : st = .training ∨ st = .down) : FreeLaneInv (dropLink p st s) := by
  obtain ⟨hforward, hreturn, hrun⟩ := (freeLaneInv_iff s).1 h
  refine freeLaneInv_leaveEffects ?_ (fun hp => hforward.congr (by simp [hp]))
    (fun hp => hreturn.congr (by simp [hp]) (by simp)) (runSettled_setLink hrun fun hp => by simp [hs] at hp)
  obtain rfl | rfl := hst <;> simp [Link.enter]

/-- A proving run starts where none was in progress: its port enters PROVING, and leaves LINKED if it was there (R156,
R165). -/
theorem FreeLaneInv.startRun {s : State} (h : FreeLaneInv s) (p : PortId) (role : ProvingRole) (n : Nat) :
    FreeLaneInv (startRun p role n s) := by
  obtain ⟨hforward, hreturn, -⟩ := (freeLaneInv_iff s).1 h
  have hproving : (enterProving role (s.link p)).state = .proving := by
    unfold enterProving
    cases role <;> rfl
  unfold Machine.startRun
  dsimp only
  generalize hs2 : ({ s.setLink p (enterProving role (s.link p)) with
    proving := ⟨some ⟨p, role, newEngine role⟩, some ⟨p, role, n, 0, false, .running⟩⟩ } : State) = s2
  have hlink : s2.link p = enterProving role (s.link p) := by subst hs2; cases p <;> rfl
  have hother : (p = .u → s2.portD = s.portD) ∧ (p = .d → s2.portU = s.portU) := by
    subst hs2; cases p <;> simp
  have hreset : s2.mgmt = s.mgmt := by subst hs2; simp
  have hrun : RunSettled s2 := by
    intro run hr
    obtain rfl : (⟨p, role, newEngine role⟩ : ProvingRun) = run := by subst hs2; exact Option.some.inj hr
    simp only [hlink, hproving]
  split
  · refine freeLaneInv_laneClosed.raise _ (freeLaneInv_leaveEffects ?_ (fun hp => hforward.congr (hother.1 hp))
      (fun hp => hreturn.congr (hother.2 hp) (by rw [hreset])) hrun)
    simp [hlink, hproving]
  · rename_i hunlinked
    refine h.moved (mt (State.linked_iff s p).2 hunlinked) (by simp [hlink, hproving]) ?_ hother.1 hother.2 (by rw [hreset])
      hrun
    subst hs2
    exact s.tx_setLink p _

theorem FreeLaneInv.doProve {s : State} (h : FreeLaneInv s) (port role n : Nat) : FreeLaneInv (doProve port role n s).1 := by
  unfold Machine.doProve
  split <;> [skip; (split <;> [(split <;> [skip; split]); skip])]
  case h_1.isFalse.isFalse => exact freeLaneInv_laneClosed.changeMode _ (h.startRun _ _ _)
  all_goals exact h

/-- The frame on the return lane has been sent, and the lane is offered to the next (R164, R179). -/
theorem FreeLaneInv.finishReturn {s : State} (h : FreeLaneInv s) : FreeLaneInv (Machine.offerReturn (finishReturn s)) := by
  obtain ⟨hforward, -, hrun⟩ := (freeLaneInv_iff s).1 h
  have hfree : (Machine.finishReturn s).portU.tx = none := by
    unfold Machine.finishReturn
    dsimp only
    split <;> simp
  exact (freeLaneInv_iff _).2 ⟨hforward.congr (by simp), returnSettled_offerReturn fun _ => hfree,
    hrun.congr (by simp) (by simp)⟩

/-- A proving run ends: its port was in PROVING, with no frame on its lane, and goes to TRAINING or DOWN (R155, R169). -/
theorem FreeLaneInv.endRun {s : State} (h : FreeLaneInv s) : FreeLaneInv (endRun s) := by
  obtain ⟨hforward, hreturn, hrun⟩ := (freeLaneInv_iff s).1 h
  unfold Machine.endRun
  split
  · exact h
  · rename_i run hr
    have hproving := hrun run hr
    generalize hs2 : ({ leaveProving run.port s with proving := { s.proving with run := none } } : State) = s2
    have hlink : s2.link run.port = (s.link run.port).enter (if (s.link run.port).signal then .training else .down) := by
      subst hs2; exact s.link_setLink_self run.port _
    refine h.moved (p := run.port) (by simp [hproving]) ?_ ?_ ?_ ?_ ?_ ?_
    · rw [hlink]; split <;> simp [Link.enter]
    · subst hs2; exact s.tx_setLink run.port _
    · intro hp; subst hs2; simp [leaveProving, hp]
    · intro hp; subst hs2; simp [leaveProving, hp]
    · subst hs2; simp [leaveProving]
    · subst hs2; exact nofun

/-- A SOFT RESET is accepted: its answer is offered the lane, or is kept aside with the reset due (R179; log 12). -/
theorem FreeLaneInv.acceptReset {s : State} (h : FreeLaneInv s) (r : Request) : FreeLaneInv (acceptReset r s) := by
  obtain ⟨hforward, hreturn, hrun⟩ := (freeLaneInv_iff s).1 h
  rw [freeLaneInv_iff]
  refine ⟨hforward.congr (by simp), ?_, hrun.congr (by simp) (by simp)⟩
  have htx : s.portU.link.state ≠ .linked → s.portU.tx.map TxFrame.settled = none := fun hl => by simp [hreturn.1 hl]
  unfold Machine.acceptReset
  dsimp only
  split
  · exact returnSettled_offerReturn htx
  · exact ⟨htx, fun _ _ hdue => by simp [SoftReset.isDue] at hdue⟩

/-- The reset empties the arbiter and the relay queue, and offers the return lane to the answer that it keeps; what the
Station Controller then issues, it offers (R164, R170, R179). -/
theorem FreeLaneInv.resetBlocks {s : State} (h : FreeLaneInv s) (kept : Option Frame) :
    FreeLaneInv (resetBlocks kept s) := by
  have hP := freeLaneInv_laneClosed
  obtain ⟨hforward, hreturn, -⟩ := (freeLaneInv_iff _).1 h.endRun
  unfold Machine.resetBlocks
  dsimp only
  refine hP.setHolds _ (hP.setStation _ ((freeLaneInv_iff _).2 ⟨?_, returnSettled_offerReturn ?_, ?_⟩))
  · refine ⟨fun hl => ?_, fun _ ht => ⟨ht, fun b => ?_, ?_, ?_⟩⟩
    · simpa [resetPorts] using hforward.1 (by simpa [resetPorts, clearLink, Link.clearCounters] using hl)
    · simp [resetPorts]
    · simp [resetPorts]
    · simp [resetPorts]
  · intro hl
    simpa [resetPorts] using hreturn.1 (by simpa [resetPorts, clearLink, Link.clearCounters] using hl)
  · intro run hr
    simp [resetPorts] at hr

theorem freeLaneInv_powerOn (straps : BitVec 4) (enc : EncPair) (stop : StopLevel) (pending : List Instr) :
    FreeLaneInv (.powerOn straps enc stop pending) := by
  rw [freeLaneInv_iff]
  exact ⟨⟨fun _ => rfl, nofun⟩, ⟨fun _ => rfl, nofun⟩, nofun⟩

/-- Every command keeps the lanes settled: one that changes a port's state by the lemmas above, one that ends a frame or
queues one by offering the lane to the next, and the others keep every relation over queues and lanes. -/
theorem exec_freeLaneInv {c : Instr} {s t : State} (h : FreeLaneInv s) (he : exec c s = .next t) : FreeLaneInv t := by
  have hP := freeLaneInv_laneClosed
  have hmarks : ∀ (s : State) (p : PortId) (l : Link), FreeLaneInv s → l.state = (s.link p).state →
      FreeLaneInv (s.setLink p l) := fun s p l h hl => hP.same h (sameLanes_setLink s p hl)
  by_cases hc : movesLanes c = false
  · exact hP.exec_keeps hc h he
  cases c <;> first | exact absurd rfl hc | dsimp only [exec] at he
  case powerOn straps enc stop =>
    cases he
    exact hP.readStop _ (freeLaneInv_powerOn straps enc stop s.pending)
  case detectFrame =>
    refine whenRunning_keeps h (fun h => ?_) he
    split <;> [skip; (dsimp only; split)]
    · exact h
    · exact h
    · exact hP.raise _ h
  case detectRecord =>
    refine whenRunning_keeps h (fun h => ?_) he
    split
    · exact h
    · exact hP.takeRecord _ h
  case requestArrival =>
    refine whenRunning_keeps h (fun h => ?_) he
    split <;> [skip; (dsimp only; split)]
    · exact h
    · exact h
    · exact hP.pushOwn _ h
  case signalDetected p =>
    refine whenRunning_keeps h (fun h => ?_) he
    dsimp only
    split
    · rename_i hdown
      exact h.setLink (by simp [hdown]) (by simp [hdown]) (by simp [Link.enter])
    · exact hmarks s p _ h rfl
  case receiverLocked p =>
    refine whenRunning_keeps h (fun h => ?_) he
    have hlock := hmarks s p { s.link p with locked := true } h rfl
    dsimp only
    split <;> [split; split; skip; skip]
    · rename_i htraining _
      exact hlock.becomeLinked (by simpa using htraining)
    · exact hlock
    · exact h
    · exact hlock
    · exact h
    · exact h
  case partnerReadyChange p mark =>
    refine whenRunning_keeps h (fun h => ?_) he
    have hmark := hmarks s p { s.link p with partnerReady := mark } h rfl
    dsimp only
    split <;> [split; split; split; skip]
    · rename_i htraining _
      exact hmark.becomeLinked (by simpa using htraining)
    · exact hmark
    · exact hmark
    · rename_i hlinked _
      exact hP.raise _ (hmark.dropLink (by simpa using hlinked) (.inl rfl))
    · exact h
    · exact hmark
    · exact h
  case signalLoss p =>
    refine whenRunning_keeps h (fun h => ?_) he
    have hlost := hmarks s p { s.link p with signal := false } h rfl
    dsimp only
    split
    · rename_i hlinked
      exact hP.raise _ (hlost.dropLink (by simpa using hlinked) (.inr rfl))
    · rename_i htraining
      have htraining' : (s.link p).state = .training := htraining
      exact h.setLink (by simp [htraining']) (by simp [htraining']) (by simp [Link.enter])
    · exact hlost
    · exact hlost
  case monitorWindowClose p =>
    refine whenRunning_keeps h (fun h => ?_) he
    dsimp only
    split <;> [split; skip]
    · rename_i hlinked _
      have hclosed := hmarks s p (closeWindow s.mgmt.line (s.link p)) h rfl
      exact hP.raise _ (hclosed.dropLink (by simpa [closeWindow] using hlinked) (.inl rfl))
    · exact hP.raise _ (hmarks s p _ h rfl)
    · exact hmarks s p _ h rfl
  case portDFrameSent =>
    refine whenRunning_keeps h (fun h => ?_) he
    rw [freeLaneInv_iff] at h ⊢
    obtain ⟨hforward, hreturn, hrun⟩ := h
    refine ⟨forwardSettled_offerForward fun _ => rfl, hreturn.congr (by simp) (by simp), hrun.congr ?_ (by simp)⟩
    rintro (_ | _) <;> simp
  case portUFrameSent =>
    exact whenRunning_keeps h (fun h => h.finishReturn) he
  case provingExpiry =>
    refine whenRunning_keeps h (fun h => ?_) he
    split
    · exact h
    · exact hP.same h.endRun (by constructor <;> simp)
  case prove =>
    refine whenRunning_keeps h (hP.serve fun d act hw s h => ?_) he
    split at hw <;> cases hw
    exact ⟨h.doProve _ _ _, by simp⟩
  case softReset =>
    refine whenRunning_keeps h (fun h => ?_) he
    split <;> [skip; (split <;> [skip; split])]
    · exact h
    · exact h
    · exact h.acceptReset _
    · exact h
  case softResetPerformed stop =>
    refine whenRunning_keeps h (fun h => ?_) he
    split
    · exact hP.readStop _ (h.resetBlocks _)
    · exact h
    · exact h

/-- Settles O7: each relation is kept by every command, and does not read the queue of commands. -/
theorem stepKeepsTheQueuesInCapacity : Obligations.StepKeepsTheQueuesInCapacity :=
  ⟨step_keeps QueueInv (fun _ _ h => h) fun _ _ _ h he => exec_queueInv h he,
    step_keeps FreeLaneInv (fun _ _ h => h) fun _ _ _ h he => exec_freeLaneInv h he⟩

end Sys2Proof.Machine

/-! The free id and the place of an entry (R30, R31). -/

namespace Sys2Proof.Machine

/-! ## The free id of an item, the place of a window -/

/-- What `freeId` finds: the first free value upward, or the last it may try (R30). -/
theorem freeId_spec (items : List Item) (n : Nat) (next : BitVec 16) :
    ∃ k : Nat, k ≤ n ∧ freeId items n next = next + BitVec.ofNat 16 k
      ∧ (∀ j : Nat, j < k → next + BitVec.ofNat 16 j ∈ items.map (·.id))
      ∧ (k < n → freeId items n next ∉ items.map (·.id)) := by
  induction n generalizing next with
  | zero => exact ⟨0, Nat.le_refl 0, by simp [freeId], by simp, by simp⟩
  | succ n ih =>
    unfold freeId
    split
    · rename_i hfree
      exact ⟨0, Nat.zero_le _, by simp, by simp, fun _ => (idFree_iff items next).1 hfree⟩
    · rename_i hheld
      have hmem : next ∈ items.map (·.id) := not_not.1 (mt (idFree_iff items next).2 hheld)
      obtain ⟨k, hk, hid, hall, hfree⟩ := ih (next + 1)
      have hshift : ∀ j : Nat, next + 1 + BitVec.ofNat 16 j = next + BitVec.ofNat 16 (j + 1) := by
        intro j
        rw [BitVec.ofNat_add, BitVec.add_assoc, BitVec.add_comm 1]
        rfl
      refine ⟨k + 1, Nat.succ_le_succ hk, by rw [hid, hshift], fun j hj => ?_, fun h => hfree (Nat.lt_of_succ_lt_succ h)⟩
      cases j with
      | zero => simpa using hmem
      | succ j => rw [← hshift]; exact hall j (Nat.lt_of_succ_lt_succ hj)

/-- A list of `n` ids does not hold all of `n + 1` values in a row, of which no two are equal. -/
theorem consecutive_not_subset {ids : List (BitVec 16)} {next : BitVec 16} (hlen : ids.length ≤ 1024)
    (hall : ∀ j : Nat, j ≤ ids.length → next + BitVec.ofNat 16 j ∈ ids) : False := by
  have hnodup : ((List.range (ids.length + 1)).map fun j => next + BitVec.ofNat 16 j).Nodup := by
    refine List.Nodup.map_on (fun i hi j hj hij => ?_) List.nodup_range
    rw [List.mem_range] at hi hj
    have heq : BitVec.ofNat 16 i = BitVec.ofNat 16 j := by simpa using hij
    have hval := congrArg BitVec.toNat heq
    simp only [BitVec.toNat_ofNat] at hval
    omega
  have hsub : ((List.range (ids.length + 1)).map fun j => next + BitVec.ofNat 16 j) ⊆ ids := by
    intro x hx
    obtain ⟨j, hj, rfl⟩ := List.mem_map.1 hx
    exact hall j (Nat.lt_succ_iff.1 (List.mem_range.1 hj))
  have hle := (List.subperm_of_subset hnodup hsub).length_le
  simp at hle

/-- A track of at most 1,024 items leaves the id free that `freeId` finds (R30). -/
theorem freeId_free {items : List Item} (next : BitVec 16) (hlen : items.length ≤ 1024) :
    freeId items items.length next ∉ items.map (·.id) := by
  obtain ⟨k, hk, hid, hall, hfree⟩ := freeId_spec items items.length next
  obtain hlt | rfl := Nat.lt_or_eq_of_le hk
  · exact hfree hlt
  · intro hmem
    refine consecutive_not_subset (ids := items.map (·.id)) (next := next) (by simpa using hlen) fun j hj => ?_
    rw [List.length_map] at hj
    obtain hj | rfl := Nat.lt_or_eq_of_le hj
    · exact hall j hj
    · rwa [← hid]

theorem insertWindow_eq (w : Window) (before after : List Window) (hbefore : ∀ x ∈ before, sdiff x.openPos w.openPos ≤ 0)
    (hafter : ∀ x ∈ after, 0 < sdiff x.openPos w.openPos) : insertWindow w (before ++ after) = before ++ w :: after := by
  induction before with
  | nil =>
    cases after with
    | nil => rfl
    | cons x xs => exact if_pos (hafter x List.mem_cons_self)
  | cons x xs ih =>
    have hx : ¬ 0 < sdiff x.openPos w.openPos := Int.not_lt.2 (hbefore x List.mem_cons_self)
    rw [List.cons_append, insertWindow, if_neg hx, ih fun y hy => hbefore y (List.mem_cons_of_mem x hy)]
    rfl

/-- Settles O24: the id by `freeId_spec` and the pigeonhole of `freeId_free`, the place by `insertWindow_eq`. -/
theorem entriesTakeAFreeIdAndTheirPlace : Obligations.EntriesTakeAFreeIdAndTheirPlace := by
  refine ⟨fun items next hlen => ⟨freeId_free next hlen, fun hnext => ?_, ?_⟩, insertWindow_eq⟩
  · obtain ⟨k, -, hid, hall, -⟩ := freeId_spec items items.length next
    cases k with
    | zero => simpa using hid
    | succ k => exact absurd (by simpa using hall 0 (Nat.succ_pos k)) hnext
  · obtain ⟨k, hk, hid, hall, -⟩ := freeId_spec items items.length next
    exact ⟨k, hk, hid, hall⟩

end Sys2Proof.Machine

/-! The Item Track and the window lists (R28 to R33, R75, R77, R78, R108). -/

namespace Sys2Proof.Machine

/-! ## What the relation between track and lists reads -/

/-- Two states with the same track, whose banks owe it the same ids. -/
def SameTrack (s t : State) : Prop := t.track = s.track ∧ ∀ b, (t.owed b).Perm (s.owed b)

theorem TrackInv.same {s t : State} (h : TrackInv s) (hs : SameTrack s t) : TrackInv t := by
  obtain ⟨hlen, hids, hpending, hnodup, hagree⟩ := h
  obtain ⟨ht, ho⟩ := hs
  refine ⟨by rwa [ht], by rwa [ht], by rwa [ht], fun b => (ho b).nodup_iff.2 (hnodup b), fun b id => ?_⟩
  rw [ht, (ho b).mem_iff]
  exact hagree b id

theorem SameTrack.trans {s t u : State} (h : SameTrack s t) (h' : SameTrack t u) : SameTrack s u :=
  ⟨h'.1.trans h.1, fun b => (h'.2 b).trans (h.2 b)⟩

theorem SameTrack.of_owed {s t : State} (ht : t.track = s.track) (ho : ∀ b, t.owed b = s.owed b) : SameTrack s t :=
  ⟨ht, fun b => .of_eq (ho b)⟩

theorem State.owed_congr {s t : State} (hb : t.banks = s.banks) (hh : t.handed.banks = s.handed.banks) (b : BankIx) :
    t.owed b = s.owed b := by
  simp [State.owed, State.bank_congr hb, State.bankHanded_congr hh]

/-- Nothing at the banks or in their reports changes. -/
theorem SameTrack.of_banks {s t : State}
    (h : t.track = s.track ∧ t.banks = s.banks ∧ t.handed.banks = s.handed.banks) : SameTrack s t := by
  obtain ⟨ht, hb, hh⟩ := h
  exact .of_owed ht (State.owed_congr hb hh)

/-- The windows of each bank and its retirement reports stay. -/
theorem SameTrack.of_lists {s t : State} (ht : t.track = s.track)
    (hw : ∀ b, (t.bank b).windows = (s.bank b).windows)
    (hr : ∀ b, (t.bankHanded b).retired = (s.bankHanded b).retired) : SameTrack s t :=
  .of_owed ht fun b => by simp [State.owed, hw, hr]

/-- An empty track and empty lists agree. -/
theorem trackInv_of_empty {s : State} (ht : s.track = []) (ho : ∀ b, s.owed b = []) : TrackInv s := by
  simp [TrackInv, ht, ho]

/-! ## The operations that leave the lists alone -/

theorem setBank_windows {s : State} {b : BankIx} {u : BankUnit} (hu : u.windows = (s.bank b).windows) (c : BankIx) :
    ((s.setBank b u).bank c).windows = (s.bank c).windows := by
  rw [State.bank_setBank]
  split
  · rename_i h; rw [hu, h]
  · rfl

theorem setBankHanded_retired {s : State} {b : BankIx} {g : BankHanded} (hg : g.retired = (s.bankHanded b).retired)
    (c : BankIx) : ((s.setBankHanded b g).bankHanded c).retired = (s.bankHanded c).retired := by
  rw [State.bankHanded_setBankHanded]
  split
  · rename_i h; rw [hg, h]
  · rfl

theorem sameTrack_setBank {s : State} {b : BankIx} {u : BankUnit} (hu : u.windows = (s.bank b).windows) :
    SameTrack s (s.setBank b u) :=
  .of_lists rfl (setBank_windows hu) fun _ => rfl

theorem sameTrack_setBankHanded {s : State} {b : BankIx} {g : BankHanded} (hg : g.retired = (s.bankHanded b).retired) :
    SameTrack s (s.setBankHanded b g) :=
  .of_lists rfl (fun _ => rfl) (setBankHanded_retired hg)

theorem sameTrack_replace {s : State} {b : BankIx} {u : BankUnit} {g : BankHanded} (hu : u.windows = (s.bank b).windows)
    (hg : g.retired = (s.bankHanded b).retired) : SameTrack s ((s.setBank b u).setBankHanded b g) :=
  (sameTrack_setBank hu).trans (sameTrack_setBankHanded (s := s.setBank b u) hg)

theorem sameTrack_reportAir (b : BankIx) (s : State) : SameTrack s (reportAir b s) := by
  rw [reportAir_eq]
  exact sameTrack_replace rfl rfl

theorem sameTrack_endHold (b : BankIx) (s : State) : SameTrack s (endHold b s) := by
  rw [endHold_eq (withdrawn := decide ((s.bank b).holdEnd = true ∧ (s.bank b).airReport = true)) (by simp)]
  exact sameTrack_replace rfl rfl

theorem sameTrack_applyBank (b : BankIx) (e : BankEntry) (s : State) : SameTrack s (applyBank b e s) := by
  rw [applyBank_eq (withdrawn := decide ((s.bank b).holdEnd = true ∧ (s.bank b).airReport = true)) (by simp) rfl]
  exact sameTrack_replace rfl rfl

theorem takeStatus_windows (d : DriverStatus) (u : BankUnit) : (takeStatus d u).windows = u.windows := by
  unfold takeStatus
  dsimp only
  split <;> rfl

theorem takeMode_windows (m : Mode) (u : BankUnit) : (takeMode m u).windows = u.windows := by simp

theorem sameTrack_allOffBank (s : State) (b : BankIx) : SameTrack s (allOffBank s b) := by
  unfold allOffBank
  dsimp only
  split
  · exact .of_banks (by simp)
  · have hclear : SameTrack s (s.setBank b { clearComposed (s.bank b) with latched := 0 }) :=
      sameTrack_setBank (by simp [clearComposed])
    exact hclear.trans (.of_banks (by simp))

theorem sameTrack_allOff (s : State) : SameTrack s (allOff s) := by
  unfold allOff
  induction BankIx.all generalizing s with
  | nil => exact .of_banks (by simp)
  | cons b bs ih => exact (sameTrack_allOffBank s b).trans (ih _)

theorem sameTrack_changeMode (m : Mode) (s : State) : SameTrack s (changeMode m s) :=
  .of_lists rfl (fun _ => rfl) fun b => by simp

theorem trackInv_raise (flags : List EventFlag) {s : State} (h : TrackInv s) : TrackInv (raise flags s) :=
  h.same (.of_banks (by simp))

/-! ## A flush -/

theorem trackInv_flushLine (s : State) : TrackInv (flushLine s) :=
  trackInv_of_empty (by simp) fun b => by simp [State.owed, flushBank]

theorem trackInv_flushInto (m : Mode) (s : State) : TrackInv (flushInto m s) :=
  trackInv_of_empty (by simp) fun b => by simp [State.owed, flushBank]

theorem trackInv_faultEntry (cause : FaultCause) (s : State) : TrackInv (faultEntry cause s) :=
  trackInv_flushInto .fault _

theorem trackInv_takeEmergencyStop {s : State} (h : TrackInv s) : TrackInv (takeEmergencyStop s) := by
  unfold takeEmergencyStop
  dsimp only
  split
  · exact trackInv_raise _ (h.same (sameTrack_allOff s))
  · exact trackInv_raise _ (trackInv_faultEntry .estop _)

theorem trackInv_readStop (stop : StopLevel) {s : State} (h : TrackInv s) : TrackInv (readStop stop s) := by
  have hstop : TrackInv { s with stopn := stop } := h
  unfold readStop
  dsimp only
  split
  · exact trackInv_takeEmergencyStop hstop
  · exact hstop

/-! ## A boundary: closed windows leave the list and are reported -/

theorem nextWindow_item (k : Conditions) (u : BankUnit) (image : Image) (lanes : Vector Lane 128) (w : Window) :
    (nextWindow k u image lanes w).item = w.item := by
  unfold nextWindow
  split
  · rfl
  · dsimp only
    split <;> rfl

theorem turnSlot_items (k : Conditions) (u : BankUnit) :
    (turnSlot k u).windows.map (·.item) = (u.windows.filter fun w => !w.closed k.p).map (·.item) := by
  simp [turnSlot, countHold_eq, compose, retireClosed, nextWindow_item, Function.comp_def]

/-- The ids that a bank owes are the same before a boundary and after it: those of the windows that closed are now those of
its reports (R32, R84). -/
theorem sameTrack_boundaryInUse (b : BankIx) (n : BitVec 8) (s : State) : SameTrack s (boundaryInUse b n s) := by
  refine ⟨by simp, fun c => ?_⟩
  by_cases hc : c = b
  · subst hc
    unfold State.owed
    rw [boundaryInUse_bank, boundaryInUse_bankHanded, turnSlot_items]
    dsimp only
    generalize (s.bank c).windows = ws
    generalize (s.bankHanded c).retired = reports
    have hsplit := (List.filter_append_perm (fun w => Window.closed (conditions s).p w) ws).map (·.item)
    rw [List.map_append] at hsplit
    refine List.Perm.trans ?_ (hsplit.append_right reports)
    rw [← List.append_assoc, List.append_assoc (List.map _ (List.filter (Window.closed _) ws))]
    exact List.perm_append_comm
  · unfold State.owed
    rw [(boundaryInUse_ne n s hc).1, (boundaryInUse_ne n s hc).2]

theorem sameTrack_bankBoundary (b : BankIx) (s : State) : SameTrack s (bankBoundary b s) := by
  have htaken : ∀ rest, SameTrack s (s.setBankHanded b { s.bankHanded b with boundaries := rest }) := fun _ =>
    sameTrack_setBankHanded rfl
  unfold bankBoundary
  split <;> [skip; (dsimp only; split)]
  · exact .of_banks (by simp)
  · rename_i n rest _ _
    refine (htaken rest).trans ?_
    unfold boundaryDisabled
    exact sameTrack_setBank (by simp [countHold_eq])
  · exact (htaken _).trans (sameTrack_boundaryInUse b _ _)

/-! ## A record enters -/

theorem foldl_twoPow_get (f : BankIx → Bool) (b : BankIx) (banks : List BankIx) (v : BitVec 4) :
    (banks.foldl (fun v c => if f c then v ||| BitVec.twoPow 4 c.val else v) v).getLsbD b.val =
      (v.getLsbD b.val || decide (b ∈ banks) && f b) := by
  induction banks generalizing v with
  | nil => simp
  | cons c cs ih =>
    rw [List.foldl_cons, ih]
    by_cases hbc : b = c
    · subst hbc
      by_cases hf : f b <;> simp [hf]
    · have hval : b.val ≠ c.val := fun h => hbc (Fin.ext h)
      by_cases hf : f c <;> simp [hf, hbc, hval]

theorem BankIx.mem_all (b : BankIx) : b ∈ BankIx.all := by
  revert b
  decide

theorem listedBanks_get (plans : BankIx → Plan) (b : BankIx) :
    (listedBanks plans).getLsbD b.val = (plans b).isListed := by
  unfold listedBanks
  rw [foldl_twoPow_get fun b => (plans b).isListed]
  simp [BankIx.mem_all]

theorem insertWindow_perm (w : Window) (ws : List Window) : (insertWindow w ws).Perm (w :: ws) := by
  induction ws with
  | nil => exact .refl _
  | cons x xs ih =>
    unfold insertWindow
    split
    · exact .refl _
    · exact (ih.cons x).trans (.swap w x xs)

/-- The ids of a bank's windows after the ninth step: one more when its verdict is LISTED. -/
theorem settleBank_items (id : BitVec 16) (priority : Nat) (p : Plan) (u : BankUnit) :
    ((settleBank id priority p u).windows.map (·.item)).Perm
      (if p.isListed then id :: u.windows.map (·.item) else u.windows.map (·.item)) := by
  cases p with
  | listed kind w => exact (insertWindow_perm _ _).map _
  | _ => exact .refl _

theorem settleBanks_owed (id : BitVec 16) (priority : Nat) (plans : BankIx → Plan) (s : State) (b : BankIx) :
    ((settleBanks id priority plans s).owed b).Perm (if (plans b).isListed then id :: s.owed b else s.owed b) := by
  unfold State.owed
  rw [settleBanks_bank, (settleBanks_frame_at id priority plans s).1]
  refine ((settleBank_items id priority (plans b) (s.bank b)).append_right _).trans (.of_eq ?_)
  split <;> rfl

/-- An item with an id that is free enters together with its windows. -/
theorem TrackInv.enter {s t : State} {item : Item} (h : TrackInv s) (hroom : s.track.length < 1024)
    (hid : item.id ∉ s.track.map (·.id)) (hpending : item.pendingBanks ≠ 0) (ht : t.track = s.track ++ [item])
    (ho : ∀ b, (t.owed b).Perm (if item.pendingBanks.getLsbD b.val then item.id :: s.owed b else s.owed b)) :
    TrackInv t := by
  obtain ⟨hlen, hids, hpend, hnodup, hagree⟩ := h
  have hnotOwed : ∀ b, item.id ∉ s.owed b := by
    intro b hmem
    obtain ⟨i, hi, heq, -⟩ := (hagree b item.id).1 hmem
    exact hid (List.mem_map.2 ⟨i, hi, heq⟩)
  refine ⟨?_, ?_, ?_, fun b => (ho b).nodup_iff.2 ?_, fun b id => ?_⟩
  · rw [ht, List.length_append]
    exact hroom
  · rw [ht, List.map_append]
    exact hids.append (List.nodup_singleton _) (by simpa using hid)
  · rw [ht]
    simpa [or_imp, forall_and] using ⟨hpend, hpending⟩
  · split
    · exact (hnodup b).cons (hnotOwed b)
    · exact hnodup b
  · rw [ht, (ho b).mem_iff]
    simp only [List.mem_append, List.mem_singleton, or_and_right, exists_or, exists_eq_left, ← hagree]
    by_cases hlisted : item.pendingBanks.getLsbD b.val = true
    · rw [if_pos hlisted, List.mem_cons, or_comm]
      exact or_congr_right ⟨fun h => ⟨h.symm, hlisted⟩, fun h => h.1.symm⟩
    · rw [if_neg hlisted]
      exact (or_iff_left fun h => hlisted h.2).symm

theorem trackInv_refuse (why : Refused) {s : State} (h : TrackInv s) : TrackInv (refuse why s) :=
  trackInv_raise _ (h.same (.of_banks (by simp)))

theorem trackInv_enterItem (r : Detection) (w : Winner) {plans : BankIx → Plan} {s : State} (h : TrackInv s)
    (hroom : s.track.length < 1024) (hlisted : ∃ b, (plans b).isListed = true) : TrackInv (enterItem r w plans s) := by
  have hlen : s.track.length ≤ 1024 := Nat.le_of_lt hroom
  have hpending : listedBanks plans ≠ 0 := by
    obtain ⟨b, hb⟩ := hlisted
    intro h0
    rw [← listedBanks_get, h0] at hb
    exact absurd hb (by simp)
  refine h.enter (item := newItem s r w (freeId s.track s.track.length s.intake.nextId) (listedBanks plans)) hroom
    (freeId_free _ hlen) hpending (by simp [enterItem]) fun b => ?_
  have howed : (enterItem r w plans s).owed b =
      (settleBanks (freeId s.track s.track.length s.intake.nextId) w.result.priority plans s).owed b :=
    State.owed_congr (by simp [enterItem]) (by simp [enterItem]) b
  rw [howed]
  refine (settleBanks_owed _ _ _ _ _).trans (.of_eq ?_)
  rw [← listedBanks_get]
  rfl

theorem trackInv_passRecord (w : Winner) {plans : BankIx → Plan} {s : State} (h : TrackInv s)
    (hnone : ∀ b, (plans b).isListed = false) : TrackInv (passRecord w plans s) := by
  refine h.same ⟨by simp [passRecord], fun b => ?_⟩
  have howed : (passRecord w plans s).owed b = (settleBanks s.intake.nextId w.result.priority plans s).owed b :=
    State.owed_congr (by simp [passRecord]) (by simp [passRecord]) b
  rw [howed]
  refine (settleBanks_owed _ _ _ _ _).trans (.of_eq ?_)
  rw [hnone b]
  rfl

theorem trackInv_takeRecord (r : Detection) {s : State} (h : TrackInv s) : TrackInv (takeRecord r s) := by
  have hcounted : ∀ c, TrackInv (s.setIntakeCounters c) := fun _ => h
  unfold takeRecord
  dsimp only
  split <;> [skip; (split <;> [skip; (split <;> [skip; split])])]
  · exact trackInv_refuse _ (hcounted _)
  · exact trackInv_refuse _ (hcounted _)
  · exact trackInv_refuse _ (hcounted _)
  · exact trackInv_refuse _ (hcounted _)
  · generalize countAlterations r _ _ = c
    generalize IntakeCounters.mk _ _ _ _ _ _ _ _ _ _ _ _ = c'
    have hclassified : TrackInv (classify r (winnerOf r s) ((s.setIntakeCounters c').setIntakeCounters c)) := h
    unfold settleRecord
    split <;> [split; skip]
    · exact trackInv_refuse _ hclassified
    · rename_i hlisted hroom
      exact trackInv_enterItem r _ hclassified (Nat.not_le.1 hroom) ((any_banks_iff _).1 hlisted)
    · rename_i hnone
      rw [any_banks_iff] at hnone
      exact trackInv_passRecord _ hclassified fun b => Bool.eq_false_iff.2 fun hb => hnone ⟨b, hb⟩

/-! ## A retirement report -/

theorem without_get (i : Item) (b c : BankIx) :
    (i.without b).pendingBanks.getLsbD c.val = (i.pendingBanks.getLsbD c.val && !decide (c = b)) := by
  have hval : (c = b) = (c.val = b.val) := propext Fin.ext_iff
  simp [Item.without, hval]

theorem mem_retireItem {id : BitVec 16} {b : BankIx} {items : List Item} {j : Item} :
    j ∈ retireItem id b items ↔
      (∃ i ∈ items, (i.id = id ∧ i.pendingBanks.getLsbD b.val = true)
          ∧ (i.without b).pendingBanks ≠ 0 ∧ i.without b = j)
        ∨ j ∈ items ∧ ¬ (j.id = id ∧ j.pendingBanks.getLsbD b.val = true) := by
  unfold retireItem
  rw [List.mem_filterMap]
  constructor
  · rintro ⟨i, hi, hj⟩
    split at hj <;> [split at hj; skip]
    · cases hj
    · rename_i hnamed hleft
      exact .inl ⟨i, hi, hnamed, hleft, Option.some.inj hj⟩
    · rename_i hnamed
      cases hj
      exact .inr ⟨hi, hnamed⟩
  · rintro (⟨i, hi, hnamed, hleft, rfl⟩ | ⟨hj, hnamed⟩)
    · exact ⟨i, hi, by rw [if_pos hnamed, if_neg hleft]⟩
    · exact ⟨j, hj, by rw [if_neg hnamed]⟩

theorem retireItem_ids_sublist (id : BitVec 16) (b : BankIx) (items : List Item) :
    ((retireItem id b items).map (·.id)).Sublist (items.map (·.id)) := by
  induction items with
  | nil => exact .refl _
  | cons i items ih =>
    unfold retireItem
    rw [List.filterMap_cons]
    split
    · exact ih.cons _
    · rename_i j hj
      have hid : j.id = i.id := by
        split at hj <;> [split at hj; skip] <;> cases hj <;> rfl
      rw [List.map_cons, List.map_cons, hid]
      exact ih.cons_cons _

/-- Which banks the items of the track wait for after a report: all as before, without the reported one. -/
theorem retireItem_waits (id id' : BitVec 16) (b c : BankIx) (items : List Item) :
    (∃ j ∈ retireItem id b items, j.id = id' ∧ j.pendingBanks.getLsbD c.val = true) ↔
      (∃ i ∈ items, i.id = id' ∧ i.pendingBanks.getLsbD c.val = true) ∧ ¬ (c = b ∧ id' = id) := by
  constructor
  · rintro ⟨j, hj, rfl, hc⟩
    obtain ⟨i, hi, ⟨hid, -⟩, -, rfl⟩ | ⟨hj, hnamed⟩ := mem_retireItem.1 hj
    · rw [without_get, Bool.and_eq_true] at hc
      exact ⟨⟨i, hi, rfl, hc.1⟩, fun h => by simp [h.1] at hc⟩
    · exact ⟨⟨j, hj, rfl, hc⟩, fun h => hnamed ⟨h.2, h.1 ▸ hc⟩⟩
  · rintro ⟨⟨i, hi, rfl, hc⟩, hother⟩
    by_cases hnamed : i.id = id ∧ i.pendingBanks.getLsbD b.val = true
    · have hcb : c ≠ b := fun h => hother ⟨h, hnamed.1⟩
      have hget : (i.without b).pendingBanks.getLsbD c.val = true := by rw [without_get, hc]; simp [hcb]
      refine ⟨i.without b, mem_retireItem.2 (.inl ⟨i, hi, hnamed, fun h0 => ?_, rfl⟩), rfl, hget⟩
      rw [h0] at hget
      exact absurd hget (by simp)
    · exact ⟨i, mem_retireItem.2 (.inr ⟨hi, hnamed⟩), rfl, hc⟩

/-- A report is taken from those that a bank owes, and its bank from the pending set of the item it names. -/
theorem TrackInv.retire {s t : State} {b : BankIx} {id : BitVec 16} (h : TrackInv s)
    (ht : t.track = retireItem id b s.track) (hb : (s.owed b).Perm (id :: t.owed b))
    (hne : ∀ c, c ≠ b → t.owed c = s.owed c) : TrackInv t := by
  obtain ⟨hlen, hids, hpend, hnodup, hagree⟩ := h
  have hsub := retireItem_ids_sublist id b s.track
  have hnodupb : (id :: t.owed b).Nodup := hb.nodup_iff.1 (hnodup b)
  refine ⟨?_, ?_, fun j hj => ?_, fun c => ?_, fun c id' => ?_⟩
  · have hle := hsub.length_le
    rw [List.length_map, List.length_map] at hle
    rw [ht]
    exact hle.trans hlen
  · rw [ht]
    exact hids.sublist hsub
  · rw [ht] at hj
    obtain ⟨i, -, -, hleft, rfl⟩ | ⟨hj, -⟩ := mem_retireItem.1 hj
    · exact hleft
    · exact hpend j hj
  · by_cases hc : c = b
    · subst hc
      exact hnodupb.of_cons
    · rw [hne c hc]
      exact hnodup c
  · rw [ht, retireItem_waits, ← hagree]
    by_cases hc : c = b
    · subst hc
      have hnot : id ∉ t.owed c := (List.nodup_cons.1 hnodupb).1
      rw [hb.mem_iff, List.mem_cons]
      constructor
      · exact fun h => ⟨.inr h, fun heq => hnot (heq.2 ▸ h)⟩
      · exact fun h => h.1.resolve_left fun heq => h.2 ⟨rfl, heq⟩
    · rw [hne c hc]
      simp [hc]

/-! ## Requests and commands -/

theorem TrackInv.serve {want : Decoded → Option Act} {s : State} (h : TrackInv s)
    (hact : ∀ d act, want d = some act → TrackInv (act s).1) : TrackInv (serve want s) :=
  serve_keeps want s h (fun _ _ h => h.same (.of_banks (by simp))) (fun _ _ h => h) fun d act hw _ => hact d act hw

theorem trackInv_doStop {s : State} (h : TrackInv s) : TrackInv (doStop s).1 := by
  have hstart : TrackInv { s with mc := { s.mc with drainStart := s.pos.tp } } := h
  have hmode : ∀ m, TrackInv (changeMode m { s with mc := { s.mc with drainStart := s.pos.tp } }) := fun m =>
    hstart.same (sameTrack_changeMode m _)
  unfold doStop
  split <;> [(dsimp only; split); skip; skip]
  · exact trackInv_raise _ (hmode .standby)
  · exact hmode .drain
  · exact trackInv_flushInto .standby s
  · exact h

@[simp] theorem sameTrack_doStart (s : State) : SameTrack s (doStart s).1 := by
  unfold doStart
  split <;> [skip; split]
  · exact .of_banks (by simp)
  · exact .of_banks (by simp)
  · exact sameTrack_changeMode .run s

@[simp] theorem sameTrack_doClearFault (stop : StopLevel) (s : State) :
    SameTrack s (doClearFault stop { s with stopn := stop }).1 := by
  have hcleared : ∀ mc pos, SameTrack s (changeMode .standby { s with stopn := stop, mc := mc, pos := pos }) := fun _ _ =>
    sameTrack_changeMode .standby s
  unfold doClearFault
  split <;> [skip; split]
  · exact .of_banks (by simp)
  · exact .of_banks (by simp)
  · exact hcleared _ _

@[simp] theorem sameTrack_doProve (port role n : Nat) (s : State) : SameTrack s (doProve port role n s).1 := by
  have htest : ∀ p r, SameTrack s (changeMode .test (startRun p r n s)) := fun p r =>
    SameTrack.trans (t := startRun p r n s) (.of_banks (by simp)) (sameTrack_changeMode .test _)
  unfold doProve
  split <;> [skip; (split <;> [(split <;> [skip; split]); skip])]
  · exact .of_banks (by simp)
  · exact .of_banks (by simp)
  · exact .of_banks (by simp)
  · exact htest _ _
  · exact .of_banks (by simp)

theorem trackInv_endTest {s : State} (h : TrackInv s) : TrackInv (endTest s) := by
  unfold endTest
  split
  · exact h.same (sameTrack_changeMode .standby s)
  · exact h

theorem trackInv_airReportTaken (b : BankIx) (on : Bool) {s : State} (h : TrackInv s) :
    TrackInv (airReportTaken b on s) :=
  h.same (.of_banks (by simp))

@[simp] theorem sameTrack_operatorAct (on : Bool) (s : State) : SameTrack s (operatorAct on s).1 := by
  unfold operatorAct
  exact .of_banks (by simp)

@[simp] theorem sameTrack_writeLineAct (i : Nat) (entry : List Byte) (s : State) :
    SameTrack s (writeLineAct i entry s).1 := by
  unfold writeLineAct
  split <;> [skip; (split <;> [skip; split])] <;> exact .of_banks (by simp)

@[simp] theorem sameTrack_writeStationAct (i : Nat) (entry : List Byte) (s : State) :
    SameTrack s (writeStationAct i entry s).1 := by
  unfold writeStationAct
  split <;> [skip; split] <;> exact .of_banks (by simp)

@[simp] theorem sameTrack_writeBandAct (i : Nat) (entry : List Byte) (s : State) :
    SameTrack s (writeBandAct i entry s).1 := by
  unfold writeBandAct
  split <;> [split; skip] <;> exact .of_banks (by simp)

@[simp] theorem sameTrack_writeRecipeAct (set : Fin 2) (i : Nat) (entry : List Byte) (s : State) :
    SameTrack s (writeRecipeAct set i entry s).1 := by
  unfold writeRecipeAct
  repeat' split
  all_goals exact .of_banks (by simp)

@[simp] theorem sameTrack_selectSetAct (n : Nat) (s : State) : SameTrack s (selectSetAct n s).1 := by
  unfold selectSetAct
  split <;> exact .of_banks (by simp)

@[simp] theorem sameTrack_clearEventsAct (named : BitVec 15) (s : State) : SameTrack s (clearEventsAct named s).1 := by
  unfold clearEventsAct
  exact .of_banks (by simp)

@[simp] theorem sameTrack_setMaskAct (mask : BitVec 15) (s : State) : SameTrack s (setMaskAct mask s).1 := by
  unfold setMaskAct
  exact .of_banks (by simp)

theorem trackInv_writeBankAct (index : Nat) (entry : List Byte) {s : State} (h : TrackInv s) :
    TrackInv (writeBankAct index entry s).1 := by
  unfold writeBankAct
  split <;> [(split <;> [skip; (split <;> [skip; split])]); skip]
  · exact h
  · exact h
  · exact h.same (sameTrack_applyBank _ _ s)
  · exact h
  · exact h

theorem trackInv_clearCountersAct (g : GroupId) (bank : Nat) {s : State} (h : TrackInv s) :
    TrackInv (clearCountersAct g bank s).1 := by
  unfold clearCountersAct
  cases g <;> dsimp only [clearGroup]
  case bank =>
    split <;> [skip; exact h]
    rename_i t ht
    split at ht <;> cases ht
    exact h.same (sameTrack_setBank rfl)
  all_goals exact h.same (.of_banks (by simp))

theorem sameTrack_clockBoundary (s : State) : SameTrack s (clockBoundary s) := by
  refine .of_lists rfl (fun b => rfl) fun b => ?_
  simp [clockBoundary, State.bankHanded]

theorem sameTrack_routeStatus (src : NodeAddr) (payload : List Byte) (s : State) :
    SameTrack s (routeStatus src payload s) := by
  refine .of_lists (by simp) (fun b => congrArg _ (State.bank_congr (by simp) b)) fun b => ?_
  unfold routeStatus
  split
  · simp only [State.bankHanded, Fin.getElem_fin, Vector.getElem_ofFn]
    split <;> rfl
  · rfl

theorem sameTrack_takeFrame (p : PortId) (bytes : List Byte) (s : State) : SameTrack s (takeFrame p bytes s) := by
  unfold takeFrame
  split <;> [skip; (split <;> [split; skip])]
  · exact .of_banks (by simp)
  · exact .of_banks (by simp)
  · unfold handOn
    split
    · exact .of_banks (by simp)
    · exact .of_banks (by simp)
    · exact sameTrack_routeStatus _ _ s
    · exact .of_banks (by simp)
  · exact .of_banks (by simp)

theorem sameTrack_statusTaken (b : BankIx) (d : DriverStatus) (s : State) :
    SameTrack s (reportAir b ((endHold b s).setBank b (takeStatus d ((endHold b s).bank b)))) :=
  ((sameTrack_endHold b s).trans (sameTrack_setBank (takeStatus_windows d _))).trans (sameTrack_reportAir b _)

theorem trackInv_resetBlocks (kept : Option Frame) (s : State) : TrackInv (resetBlocks kept s) := by
  refine trackInv_of_empty (by simp [resetBlocks]) fun b => ?_
  simp [State.owed, State.bank, State.bankHanded, resetBlocks, resetBank, resetHanded]

theorem exec_trackInv {c : Instr} {s t : State} (h : TrackInv s) (he : exec c s = .next t) : TrackInv t := by
  cases c <;> dsimp only [exec] at he
  case resetnAsserted => cases he; exact h.same (.of_banks (by simp))
  case powerOn straps enc stop =>
    cases he
    exact trackInv_readStop _ (trackInv_of_empty rfl fun b => by
      simp [State.powerOn, State.owed, State.bank, State.bankHanded, BankUnit.powerOn, Handed.empty, BankHanded.empty])
  case softResetPerformed stop =>
    refine whenRunning_keeps h (fun h => ?_) he
    split
    · exact trackInv_readStop _ (trackInv_resetBlocks _ s)
    · exact h
    · exact h
  case flush => exact whenRunning_keeps h (fun _ => trackInv_flushLine s) he
  case emergencyStop =>
    refine whenRunning_keeps h (fun h => ?_) he
    have hstop : TrackInv { s with stopn := .asserted } := h
    exact trackInv_takeEmergencyStop hstop
  case encoderFault =>
    refine whenRunning_keeps h (fun h => ?_) he
    have htaken : TrackInv { s with handed := { s.handed with encoder := s.handed.encoder - 1 } } := h
    split <;> [skip; (dsimp only; split)]
    · exact h
    · exact trackInv_raise _ htaken
    · exact trackInv_raise _ (trackInv_faultEntry _ _)
  case beltReversal =>
    refine whenRunning_keeps h (fun h => ?_) he
    have htaken : TrackInv { s with handed := { s.handed with reversal := s.handed.reversal - 1 } } := h
    split <;> [skip; (dsimp only; split)]
    · exact h
    · exact trackInv_raise _ (trackInv_faultEntry _ _)
    · exact htaken
  case drainTimeout =>
    refine whenRunning_keeps h (fun h => ?_) he
    split
    · exact trackInv_raise _ (trackInv_flushInto .standby s)
    · exact h
  case trackEmptyReport =>
    refine whenRunning_keeps h (fun h => ?_) he
    have htaken : TrackInv { s with handed := { s.handed with trackEmpty := s.handed.trackEmpty - 1 } } := h
    split <;> [skip; (dsimp only; split)]
    · exact h
    · exact trackInv_raise _ (htaken.same (sameTrack_changeMode .standby _))
    · exact htaken
  case slotBoundary part =>
    refine whenRunning_keeps h (fun h => ?_) he
    cases part with
    | clock => exact h.same (sameTrack_clockBoundary s)
    | bank b => exact h.same (sameTrack_bankBoundary b s)
  case airLowHoldEnd b => exact whenRunning_keeps h (fun h => h.same (sameTrack_endHold b s)) he
  case bankModeChange b =>
    refine whenRunning_keeps h (fun h => ?_) he
    split
    · exact h
    · exact h.same (sameTrack_replace (takeMode_windows _ _) rfl)
  case statusFrame b =>
    refine whenRunning_keeps h (fun h => ?_) he
    have htaken : ∀ rest, TrackInv (s.setBankHanded b { s.bankHanded b with status := rest }) := fun _ =>
      h.same (sameTrack_setBankHanded rfl)
    split
    · exact h
    · dsimp only
      split <;> [skip; split]
      · exact htaken _
      · exact trackInv_raise _ ((htaken _).same (sameTrack_statusTaken b _ _))
      · exact (htaken _).same (sameTrack_statusTaken b _ _)
  case frameReceived p bytes =>
    refine whenRunning_keeps h (fun h => ?_) he
    split
    · exact h.same (sameTrack_takeFrame p bytes s)
    · exact h
  case holdReasonReport src =>
    refine whenRunning_keeps h (fun h => ?_) he
    cases src <;> dsimp only
    case bank b =>
      have htaken : ∀ rest, TrackInv (s.setBankHanded b { s.bankHanded b with air := rest }) := fun _ =>
        h.same (sameTrack_setBankHanded rfl)
      split
      · exact h
      · exact trackInv_airReportTaken _ _ (htaken _)
    all_goals split <;> exact h.same (.of_banks (by simp))
  case detectRecord =>
    refine whenRunning_keeps h (fun h => ?_) he
    split
    · exact h
    · exact trackInv_takeRecord _ (s := { s with intake := { s.intake with held := _ } }) h
  case retirementReport b =>
    refine whenRunning_keeps h (fun h => ?_) he
    split
    · exact h
    · rename_i id rest hreports
      have hretired : TrackInv { s.setBankHanded b { s.bankHanded b with retired := rest } with
          track := retireItem id b s.track } := by
        refine h.retire rfl ?_ fun c hc => ?_
        · simp only [State.owed, hreports]
          exact List.perm_middle.trans (.of_eq (by simp [State.bank, State.bankHanded, State.setBankHanded]))
        · exact congrArg (((s.bank c).windows.map (·.item)) ++ ·)
            (congrArg BankHanded.retired (State.bankHanded_setBankHanded_ne s hc _))
      dsimp only
      split <;> [skip; split]
      · exact hretired
      · exact hretired.same (.of_banks (by simp))
      · exact hretired.same (.of_banks (by simp))
  case clearCounters =>
    refine whenRunning_keeps h (fun h => h.serve fun d act hw => ?_) he
    split at hw <;> cases hw
    exact trackInv_clearCountersAct _ _ h
  case stop =>
    refine whenRunning_keeps h (fun h => h.serve fun d act hw => ?_) he
    split at hw <;> cases hw
    exact trackInv_doStop h
  case writeBank =>
    refine whenRunning_keeps h (fun h => h.serve fun d act hw => ?_) he
    split at hw <;> cases hw
    exact trackInv_writeBankAct _ _ h
  case readLine | readStation | readBand | readBank | readRecipe | readTrack | readWindows | writeTrack | writeWindows
      | unknownRequest | readStatus | readCounters =>
    refine whenRunning_keeps h (fun h => h.serve fun d act hw => ?_) he
    split at hw <;> cases hw
    exact h
  case start | clearFault | writeLine | writeStation | writeBand | writeRecipe | selectSet | clearEvents | setMask | holdFeed
      | releaseFeed | prove =>
    refine whenRunning_keeps h (fun h => h.serve fun d act hw => ?_) he
    split at hw <;> cases hw
    exact h.same (by simp)
  case provingExpiryReport =>
    refine whenRunning_keeps h (fun h => ?_) he
    have htaken : ∀ g : Handed, g.banks = s.handed.banks → TrackInv { s with handed := g } := fun _ hg =>
      h.same (.of_banks ⟨rfl, rfl, hg⟩)
    split <;> [skip; split]
    · exact trackInv_endTest (htaken _ rfl)
    · exact h
    · exact trackInv_endTest (htaken _ rfl)
  case binClose | receiverLocked | partnerReadyChange | signalLoss | monitorWindowClose | codeError =>
    refine whenRunning_keeps h (fun h => ?_) he
    dsimp only
    (repeat' split) <;>
      exact h.same (.of_banks (by simp))
  all_goals
    refine whenRunning_keeps h (fun h => ?_) he
    (repeat' split) <;>
      exact h.same (.of_banks (by simp))

/-- Settles O10: by `exec_trackInv`, in which records enter by `TrackInv.enter` and reports leave by `TrackInv.retire`. -/
theorem stepKeepsTrackAndListsInAgreement : Obligations.StepKeepsTrackAndListsInAgreement :=
  step_keeps TrackInv (fun _ _ h => h) fun _ _ _ h he => exec_trackInv h he

end Sys2Proof.Machine

/-! Detections: frames, refusals, entry and pass (R17 to R31). -/

namespace Sys2Proof.Machine

/-! ## DETECT_FRAME and the record taken by DETECT_RECORD -/

/-- Settles O20: by the room among the held frames. -/
theorem detectFrameIsHeldOrDropped : Obligations.DetectFrameIsHeldOrDropped := by
  intro s f rest hrun hdetects
  dsimp only [exec, execDetectFrame]
  rw [whenRunning_running _ hrun, hdetects]
  exact ⟨fun hroom => congrArg Host.Outcome.next (if_pos hroom),
    fun hfull => congrArg Host.Outcome.next (if_neg (Nat.not_lt.2 hfull))⟩

theorem nextRecord_cons (r : Detection) (more : List Detection) (frames : List (List Detection)) :
    nextRecord ((r :: more) :: frames) = some (r, if more = [] then frames else more :: frames) := by
  cases more <;> rfl

/-- The step of DETECT_RECORD: the first record of the oldest frame is judged, its frame held while records are left. -/
theorem exec_detectRecord {s : State} {r : Detection} {more : List Detection} {frames : List (List Detection)}
    (hrun : s.inReset = false) (hheld : s.intake.held = (r :: more) :: frames) :
    exec .detectRecord s =
      .next (takeRecord r { s with intake := { s.intake with held := if more = [] then frames else more :: frames } }) := by
  dsimp only [exec, execDetectRecord]
  rw [whenRunning_running _ hrun, hheld, nextRecord_cons]

/-! ## The checks of a record -/

theorem malformed_iff (r : Detection) :
    r.malformed = true ↔ r.laneHi < r.laneLo ∨ 191 < r.laneLo ∨ sdiff r.trailPos r.leadPos < 0 := by
  change (decide (r.laneHi < r.laneLo) || decide (191 < r.laneLo) || decide (sdiff r.trailPos r.leadPos < 0)) = true ↔ _
  simp [or_assoc]

theorem clippedTrail_eq (r : Detection) (maxLen : Nat) :
    r.clippedTrail maxLen =
      if (maxLen : Int) < sdiff r.trailPos r.leadPos then r.leadPos + BitVec.ofNat 32 maxLen else r.trailPos := by
  simp [Detection.clippedTrail, Detection.tooLong, ahead]

/-- The intake counters past the checks: the record, the clamped lane, the clipped length (R19, R22, R23). -/
def IntakeCounters.judged (c : IntakeCounters) (r : Detection) (maxLen : Nat) : IntakeCounters :=
  countAlterations r maxLen { c with records := satInc c.records }

theorem judged_eq (c : IntakeCounters) (r : Detection) (maxLen : Nat) :
    c.judged r maxLen = { c with
      records := satInc c.records
      laneClamped := if 191 < r.laneHi then satInc c.laneClamped else c.laneClamped
      clipped := if (maxLen : Int) < sdiff r.trailPos r.leadPos then satInc c.clipped else c.clipped } := by
  simp only [IntakeCounters.judged, countAlterations, Detection.tooLong, decide_eq_true_eq]
  rfl

theorem takeRecord_notRun {r : Detection} {s : State} (hmode : s.mc.mode ≠ .run) :
    takeRecord r s =
      refuse .mode (s.setIntakeCounters { s.intake.counters with records := satInc s.intake.counters.records }) :=
  if_pos hmode

theorem takeRecord_malformed {r : Detection} {s : State} (hmode : s.mc.mode = .run) (hbad : r.malformed = true) :
    takeRecord r s =
      refuse .malformed (s.setIntakeCounters { s.intake.counters with records := satInc s.intake.counters.records }) :=
  (if_neg (not_not.2 hmode)).trans (if_pos hbad)

theorem takeRecord_wellFormed {r : Detection} {s : State} (hmode : s.mc.mode = .run) (hgood : ¬ r.malformed = true) :
    takeRecord r s =
      let judged := s.setIntakeCounters (s.intake.counters.judged r s.mgmt.line.maxItemLen)
      let trail := r.clippedTrail s.mgmt.line.maxItemLen
      if (s.mgmt.line.staleLimit : Int) < sdiff s.pos.tp trail then refuse .stale judged
      else if (s.mgmt.line.skewLimit : Int) < sdiff trail s.pos.tp then refuse .skew judged
      else settleRecord r (winnerOf r s) (planBank s r (winnerOf r s)) (classify r (winnerOf r s) judged) :=
  (if_neg (not_not.2 hmode)).trans (if_neg hgood)

/-- Settles O21: each refusal by its branch of `takeRecord`. -/
theorem detectRecordRefusals : Obligations.DetectRecordRefusals := by
  intro s r more frames trail seen clamped hrun hheld hseen htrail hclamped held hrest
  rw [exec_detectRecord hrun hheld, ← malformed_iff, ← hrest]
  have hjudged : clamped = s.intake.counters.judged r s.mgmt.line.maxItemLen := by
    rw [judged_eq, hclamped, hseen]
  rw [← clippedTrail_eq] at htrail
  subst hseen htrail hjudged
  refine ⟨fun hmode => ?_, fun hmode hbad => ?_, fun hmode hgood hstale => ?_, fun hmode hgood hfresh hskew => ?_⟩
  · exact congrArg Host.Outcome.next (takeRecord_notRun hmode)
  · exact congrArg Host.Outcome.next (takeRecord_malformed hmode hbad)
  · rw [takeRecord_wellFormed (s := { s with intake := { s.intake with held := held } }) hmode hgood]
    exact congrArg Host.Outcome.next (if_pos hstale)
  · rw [takeRecord_wellFormed (s := { s with intake := { s.intake with held := held } }) hmode hgood]
    exact congrArg Host.Outcome.next ((if_neg (Int.not_lt.2 hfresh)).trans (if_pos hskew))

/-! ## The ninth step: overflow, entry or pass -/

theorem settleRecord_overflow (r : Detection) (w : Winner) {plans : BankIx → Plan} {s : State}
    (hlisted : ∃ b, (plans b).isListed = true) (hfull : 1024 ≤ s.track.length) :
    settleRecord r w plans s = refuse .overflow s :=
  (if_pos ((any_banks_iff _).2 hlisted)).trans (if_pos hfull)

theorem settleRecord_enters (r : Detection) (w : Winner) {plans : BankIx → Plan} {s : State}
    (hlisted : ∃ b, (plans b).isListed = true) (hroom : s.track.length < 1024) :
    settleRecord r w plans s = enterItem r w plans s :=
  (if_pos ((any_banks_iff _).2 hlisted)).trans (if_neg (Nat.not_le.2 hroom))

theorem settleRecord_passes (r : Detection) (w : Winner) {plans : BankIx → Plan} {s : State}
    (hnone : ¬ ∃ b, (plans b).isListed = true) : settleRecord r w plans s = passRecord w plans s :=
  if_neg (mt (any_banks_iff _).1 hnone)

theorem refuse_counters (why : Refused) (s : State) :
    (refuse why s).intake.counters = s.intake.counters.countRefused why := by
  simp [refuse, State.setIntakeCounters]

theorem refuse_overflow_raises (s : State) :
    (refuse .overflow s).mgmt = (raise [.trackFull, .detectRefused] s).mgmt
      ∧ (refuse .overflow s).portU = (raise [.trackFull, .detectRefused] s).portU :=
  (raise_congr [.trackFull, .detectRefused] (a := s.setIntakeCounters (s.intake.counters.countRefused .overflow)) (b := s)
    rfl rfl rfl).symm

theorem raise_overflow_flags (s : State) :
    (raise [.trackFull, .detectRefused] s).mgmt.flags = s.mgmt.flags ||| BitVec.twoPow 15 0 ||| BitVec.twoPow 15 2 := by
  have horder : raise [.trackFull, .detectRefused] s = raiseOne .detectRefused (raiseOne .trackFull s) := rfl
  rw [horder, raiseOne_flags, raiseOne_flags]
  rfl

theorem dropFlags_of_dropped {plans : BankIx → Plan} (h : ∃ b, plans b = .dropped) : dropFlags plans = [.windowDrop] :=
  if_pos ((any_banks_iff _).2 (by simpa using h))

theorem dropFlags_of_none {plans : BankIx → Plan} (h : ∀ b, plans b ≠ .dropped) : dropFlags plans = [] :=
  if_neg (mt (any_banks_iff _).1 (by simpa using h))

/-- An entry and a pass raise WINDOW_DROP for a DROPPED verdict, and no other flag (R28, R74). -/
theorem settleRecord_raises (r : Detection) (w : Winner) {plans : BankIx → Plan} {s : State}
    (h : (¬ ∃ b, (plans b).isListed = true) ∨ s.track.length < 1024) :
    (settleRecord r w plans s).mgmt = (raise (dropFlags plans) s).mgmt
      ∧ (settleRecord r w plans s).portU = (raise (dropFlags plans) s).portU := by
  by_cases hlisted : ∃ b, (plans b).isListed = true
  · rw [settleRecord_enters r w hlisted (h.resolve_left (not_not.2 hlisted))]
    exact (raise_congr (dropFlags plans) (by simp) (by simp) (by simp)).symm
  · rw [settleRecord_passes r w hlisted]
    exact (raise_congr (dropFlags plans) (by simp) (by simp) (by simp)).symm

theorem enterItem_bank (r : Detection) (w : Winner) (plans : BankIx → Plan) (s : State) (b : BankIx) :
    (enterItem r w plans s).bank b =
      settleBank (freeId s.track s.track.length s.intake.nextId) w.result.priority (plans b) (s.bank b) := by
  rw [← settleBanks_bank]
  exact State.bank_congr (by simp [enterItem]) b

theorem passRecord_bank (w : Winner) (plans : BankIx → Plan) (s : State) (b : BankIx) :
    (passRecord w plans s).bank b = settleBank s.intake.nextId w.result.priority (plans b) (s.bank b) := by
  rw [← settleBanks_bank]
  exact State.bank_congr (by simp [passRecord, State.setIntakeCounters]) b

/-- At a bank whose verdict is not LISTED, an entry and a pass do the same, and no item id matters. -/
theorem settleRecord_bank_notListed (r : Detection) (w : Winner) {plans : BankIx → Plan} {s : State}
    (h : (¬ ∃ b, (plans b).isListed = true) ∨ s.track.length < 1024) {b : BankIx} (hb : (plans b).isListed = false)
    (id : BitVec 16) :
    (settleRecord r w plans s).bank b = settleBank id w.result.priority (plans b) (s.bank b) := by
  have hid : ∀ id', settleBank id' w.result.priority (plans b) (s.bank b)
      = settleBank id w.result.priority (plans b) (s.bank b) := by
    intro id'
    cases hp : plans b with
    | listed kind q => simp [hp, Plan.isListed] at hb
    | _ => rfl
  by_cases hlisted : ∃ b, (plans b).isListed = true
  · rw [settleRecord_enters r w hlisted (h.resolve_left (not_not.2 hlisted)), enterItem_bank, hid]
  · rw [settleRecord_passes r w hlisted, passRecord_bank, hid]

theorem enterItem_occupancy (r : Detection) (w : Winner) (plans : BankIx → Plan) (s : State) :
    (enterItem r w plans s).handed.occupancy = s.handed.occupancy ++
      (if s.mgmt.line.occHigh ≤ s.track.length + 1 then [true]
        else if s.track.length + 1 ≤ s.mgmt.line.occLow then [false] else []) := by
  simp only [enterItem, raise_frame, reportOccupancy, settleBanks_frame, List.length_append, List.length_singleton]
  split <;> [skip; split] <;> simp

theorem tally_get (c : Classifier) (w : Winner) (k : Fin 2) (i : Fin 49) :
    (c.tally w).tallies[k][i] = if k = w.set ∧ i = w.index then satInc c.tallies[k][i] else c.tallies[k][i] := by
  unfold Classifier.tally
  simp only [Fin.getElem_fin, Vector.getElem_set, Fin.ext_iff]
  by_cases hk : w.set.val = k.val
  · by_cases hi : w.index.val = i.val
    · simp [hk, hi]
    · simp [hk, hi, Ne.symm hi]
  · simp [hk, Ne.symm hk]

/-- A record past its checks: classified, planned at every bank, and settled (R26 to R28). -/
theorem takeRecord_settles {r : Detection} {s : State} {w : Winner} {plans : BankIx → Plan} (hmode : s.mc.mode = .run)
    (hgood : ¬ r.malformed = true)
    (hfresh : sdiff s.pos.tp (r.clippedTrail s.mgmt.line.maxItemLen) ≤ (s.mgmt.line.staleLimit : Int))
    (hskew : sdiff (r.clippedTrail s.mgmt.line.maxItemLen) s.pos.tp ≤ (s.mgmt.line.skewLimit : Int))
    (hw : w = winnerOf r s) (hplans : plans = planBank s r w) :
    takeRecord r s =
      settleRecord r w plans
        (classify r w (s.setIntakeCounters (s.intake.counters.judged r s.mgmt.line.maxItemLen))) := by
  subst hw hplans
  exact (takeRecord_wellFormed hmode hgood).trans
    ((if_neg (Int.not_lt.2 hfresh)).trans (if_neg (Int.not_lt.2 hskew)))

/-- Settles O22: the step is `settleRecord` on the classified state; its three cases are the lemmas above. -/
theorem detectRecordEntersOrPasses : Obligations.DetectRecordEntersOrPasses := by
  intro s r more frames trail w counts hrun hheld hmode hgood htrail hfresh hskew hcounts centroid hcentroid hw p hp
  rw [← malformed_iff] at hgood
  rw [← clippedTrail_eq] at htrail
  rw [← judged_eq] at hcounts
  have hsettled : centroid = r.settledCentroid := hcentroid
  subst htrail hsettled
  generalize hrest : (if more = [] then frames else more :: frames) = held
  obtain ⟨c, hc⟩ : ∃ c : State, c = { s with
      intake := { s.intake with held := held, counters := counts }
      cls := s.cls.tally w
      handed := { s.handed with burden := s.handed.burden ++ [r.area * w.result.burdenWeight] } } := ⟨_, rfl⟩
  have hstep : exec .detectRecord s = .next (settleRecord r w p c) := by
    rw [exec_detectRecord hrun hheld, hrest, hc, hcounts]
    exact congrArg Host.Outcome.next
      (takeRecord_settles (s := { s with intake := { s.intake with held := held } }) hmode hgood hfresh hskew hw (funext hp))
  have hlisted : (∃ b kind q, p b = .listed kind q) ↔ ∃ b, (p b).isListed = true := by simp only [isListed_iff]
  have hnotListed : (∀ b kind q, p b ≠ .listed kind q) ↔ ¬ ∃ b, (p b).isListed = true := by simp [← hlisted]
  rw [hlisted, hnotListed]
  refine ⟨settleRecord r w p c, hstep, by simp [hc], by simp [hc], ?_, by simp [hc, Classifier.tally],
    by simp [hc, Classifier.tally], by simp [hc], by simp [hc], by simp [hc], by simp [hc], by simp [hc], by simp [hc],
    ?_, ?_, ?_, ?_, ?_⟩
  · intro k i
    rw [← tally_get]
    simp [hc]
  · apply State.eq_of_fields
    case h16 => apply Handed.eq_of_fields <;> simp [hc]
    all_goals simp [hc]
  · intro hsome hfull
    have htrack : c.track = s.track := by rw [hc]
    rw [← htrack] at hfull
    rw [settleRecord_overflow r w hsome hfull]
    have hraises := raise_congr [.trackFull, .detectRefused] (a := c) (b := s) (by rw [hc]) (by rw [hc]) (by rw [hc])
    obtain ⟨hm, hu⟩ := refuse_overflow_raises c
    rw [hraises.1] at hu
    rw [hraises.2] at hm
    refine ⟨by simp [hc], by simp [hc], by simp [hc], ?_, by simp [hc], ?_, hm, hu⟩
    · rw [refuse_counters, hc]; rfl
    · rw [hm, raise_overflow_flags]
  · intro hsome hroom
    have htrack : c.track = s.track := by rw [hc]
    have hbank : ∀ b, c.bank b = s.bank b := fun b => by rw [hc]; rfl
    rw [← htrack] at hroom ⊢
    rw [settleRecord_enters r w hsome hroom]
    refine ⟨newItem c r w (freeId c.track c.track.length c.intake.nextId) (listedBanks p), by simp [enterItem], ?_, ?_, ?_,
      rfl, rfl, rfl, rfl, rfl, ?_, rfl, rfl, rfl, rfl, rfl, rfl, ?_, rfl, rfl, ?_, ?_, ?_, ?_⟩
    · rw [newItem, hc]
    · simp [enterItem, newItem]
    · rw [newItem, hc]
    · rw [newItem, hc]
    · rw [newItem, hc]; rfl
    · intro b
      rw [← isListed_iff, ← listedBanks_get]
      rfl
    · simp [enterItem, hc]
    · rw [enterItem_occupancy, hc]
    · intro b kind q hb
      rw [enterItem_bank, hb, hbank]
      rfl
  · intro hnone
    rw [settleRecord_passes r w hnone]
    refine ⟨by simp [hc], by simp [hc], ?_, by simp [hc]⟩
    simp [hc, passRecord, State.setIntakeCounters]
  · intro hsettled
    have htrack : c.track = s.track := by rw [hc]
    have hbank : ∀ b, c.bank b = s.bank b := fun b => by rw [hc]; rfl
    rw [← htrack] at hsettled
    obtain ⟨hm, hu⟩ := settleRecord_raises r w hsettled
    have hraises := raise_congr (dropFlags p) (a := c) (b := s) (by rw [hc]) (by rw [hc]) (by rw [hc])
    rw [hraises.1] at hu
    rw [hraises.2] at hm
    refine ⟨fun hdropped => ?_, fun hdropped => ?_, fun b => ?_⟩
    · rw [dropFlags_of_dropped hdropped] at hm hu
      refine ⟨?_, hm, hu⟩
      rw [hm, raise_one, raiseOne_flags]
      rfl
    · rw [dropFlags_of_none hdropped] at hm hu
      exact ⟨hm, hu⟩
    · have hb : (p b).isListed = false → _ := fun hb => settleRecord_bank_notListed r w hsettled hb 0
      rw [← hbank]
      refine ⟨fun hp => ?_, fun hp => ?_, fun hp => ?_, fun hp => ?_⟩ <;> rw [hb (by rw [hp]; rfl), hp] <;> rfl

end Sys2Proof.Machine

/-! The planning verdicts (R27, R65 to R74), and what a retirement report does (R32, R35, R140). -/

namespace Sys2Proof.Machine

/-- Settles O28: by the tests of `plan` in their order. -/
theorem planningVerdictsInOrder : Obligations.PlanningVerdictsInOrder := by
  intro d act laneLo laneHi lead trail tp w c len op cl hop hcl
  subst hop hcl
  unfold plan ahead
  refine ⟨fun h => ?_, fun hkind hact => ⟨fun h => ?_, fun hcovered =>
    ⟨fun h => ?_, fun hopen => ⟨fun h => ?_, fun h => ?_⟩⟩⟩⟩
  · obtain hkind | rfl := h
    · rw [if_pos hkind]
    · split <;> rfl
  all_goals
    rw [if_neg hkind]
    obtain ⟨kind, hwindow⟩ : ∃ kind, act.window = some kind := by
      cases act
      · exact absurd rfl hact
      · exact ⟨_, rfl⟩
      · exact ⟨_, rfl⟩
    rw [hwindow]
    dsimp only
  · rw [if_pos h]
  · rw [if_neg (by simp [hcovered]), if_pos h]
  · rw [if_neg (by simp [hcovered]), if_neg (Int.not_le.2 hopen)]
    exact if_pos h
  · rw [if_neg (by simp [hcovered]), if_neg (Int.not_le.2 hopen)]
    refine (if_neg (Nat.not_le.2 h)).trans ?_
    cases act <;> cases hwindow <;> rfl

/-! ## The track after a report -/

theorem without_eq_zero_iff (v : BitVec 4) (b : BankIx) :
    v.getLsbD b.val = true → (v &&& ~~~BitVec.twoPow 4 b.val = 0 ↔ v = BitVec.twoPow 4 b.val) := by
  revert v b
  decide

theorem twoPow_get_self (b : BankIx) : (BitVec.twoPow 4 b.val).getLsbD b.val = true := by
  revert b
  decide

/-- A report that names no bank of an item's pending set changes nothing. -/
theorem retireItem_of_notPending {id : BitVec 16} {b : BankIx} {items : List Item}
    (h : ∀ i ∈ items, i.id = id → i.pendingBanks.getLsbD b.val = false) : retireItem id b items = items := by
  refine (List.filterMap_congr fun i hi => if_neg ?_).trans (List.filterMap_some)
  rintro ⟨hid, hget⟩
  rw [h i hi hid] at hget
  cases hget

/-- The report of an item's last bank: the item leaves. -/
theorem retireItem_of_last {id : BitVec 16} {b : BankIx} {items : List Item}
    (h : ∀ i ∈ items, i.id = id → i.pendingBanks = BitVec.twoPow 4 b.val) :
    retireItem id b items = items.filter (fun j => j.id ≠ id) := by
  rw [← List.filterMap_eq_filter]
  refine List.filterMap_congr fun i hi => ?_
  by_cases hid : i.id = id
  · have hget : i.pendingBanks.getLsbD b.val = true := by rw [h i hi hid]; exact twoPow_get_self b
    rw [if_pos ⟨hid, hget⟩]
    simp [hid, Option.guard, Item.without, h i hi hid]
  · simp [hid, Option.guard]

/-- The report of one bank of several: the item keeps the others. -/
theorem retireItem_of_notLast {id : BitVec 16} {b : BankIx} {items : List Item}
    (h : ∀ i ∈ items, i.id = id → i.pendingBanks.getLsbD b.val = true ∧ i.pendingBanks ≠ BitVec.twoPow 4 b.val) :
    retireItem id b items = items.map (fun j => if j.id = id then j.without b else j) := by
  rw [← List.filterMap_eq_map]
  refine List.filterMap_congr fun i hi => ?_
  by_cases hid : i.id = id
  · obtain ⟨hget, hother⟩ := h i hi hid
    have hkept : (i.without b).pendingBanks ≠ 0 := fun h0 => hother ((without_eq_zero_iff _ b hget).1 h0)
    rw [if_pos ⟨hid, hget⟩, if_neg hkept]
    simp [hid]
  · simp [hid]

/-! ## RETIREMENT_REPORT -/

/-- The report of a bank taken, and the track that results. -/
def reportTaken (b : BankIx) (rest : List (BitVec 16)) (items : List Item) (s : State) : State :=
  { s.setBankHanded b { s.bankHanded b with retired := rest } with track := items }

theorem reportTaken_bankHanded (b c : BankIx) (rest : List (BitVec 16)) (items : List Item) (s : State) :
    (reportTaken b rest items s).bankHanded c =
      { s.bankHanded c with retired := if c = b then rest else (s.bankHanded c).retired } := by
  have hc := State.bankHanded_setBankHanded s b c { s.bankHanded b with retired := rest }
  by_cases h : c = b
  · subst h
    rw [if_pos rfl] at hc ⊢
    exact hc
  · rw [if_neg (Ne.symm h)] at hc
    rw [if_neg h]
    exact hc

/-- What follows a report after which an item left the track: the count, and to the Mode Controller a count of 0. -/
def countReported (s : State) : State :=
  if s.track.isEmpty then
    { reportOccupancy s with handed :=
      { (reportOccupancy s).handed with trackEmpty := (reportOccupancy s).handed.trackEmpty + 1 } }
  else reportOccupancy s

theorem reportOccupancy_eq (s : State) :
    reportOccupancy s = { s with handed := { s.handed with occupancy := (reportOccupancy s).handed.occupancy } } := by
  unfold reportOccupancy
  split <;> [skip; split] <;> rfl

theorem countReported_eq (s : State) :
    countReported s = { s with handed := { s.handed with
      occupancy := (reportOccupancy s).handed.occupancy
      trackEmpty := s.handed.trackEmpty + if s.track = [] then 1 else 0 } } := by
  unfold countReported
  split
  · rename_i hempty
    rw [if_pos (List.isEmpty_iff.1 hempty), reportOccupancy_eq]
  · rename_i hsome
    rw [if_neg (mt List.isEmpty_iff.2 hsome), reportOccupancy_eq]
    rfl

/-- What the Item Track reports of its count (R35). -/
theorem reportOccupancy_occupancy {s : State} (hline : s.mgmt.line.occLow < s.mgmt.line.occHigh) :
    (s.mgmt.line.occHigh ≤ s.track.length → (reportOccupancy s).handed.occupancy = s.handed.occupancy ++ [true])
      ∧ (s.track.length ≤ s.mgmt.line.occLow → (reportOccupancy s).handed.occupancy = s.handed.occupancy ++ [false])
      ∧ (s.mgmt.line.occLow < s.track.length → s.track.length < s.mgmt.line.occHigh →
          (reportOccupancy s).handed.occupancy = s.handed.occupancy) := by
  unfold reportOccupancy
  refine ⟨fun hhigh => by rw [if_pos hhigh], fun hlow => ?_, fun hlow hhigh => ?_⟩
  · rw [if_neg (Nat.not_le.2 (Nat.lt_of_le_of_lt hlow hline)), if_pos hlow]
  · rw [if_neg (Nat.not_le.2 hhigh), if_neg (Nat.not_le.2 hlow)]

theorem exec_retirementReport {b : BankIx} {id : BitVec 16} {rest : List (BitVec 16)} {s : State}
    (hrun : s.inReset = false) (hreports : (s.bankHanded b).retired = id :: rest) :
    exec (.retirementReport b) s = .next (
      let taken := reportTaken b rest (retireItem id b s.track) s
      if taken.track.length = s.track.length then taken else countReported taken) := by
  dsimp only [exec, execRetirementReport]
  rw [whenRunning_running _ hrun, hreports]
  rfl

/-- Settles O25: by the three forms of `retireItem`, and whether an item left. -/
theorem retirementReportsLeaveTheTrack : Obligations.RetirementReportsLeaveTheTrack := by
  intro s b id rest hrun hreports hnodup hline
  have hunique : ∀ i ∈ s.track, ∀ j ∈ s.track, i.id = id → j.id = id → j = i := fun i hi j hj hi' hj' =>
    List.inj_on_of_nodup_map hnodup hj hi (hj'.trans hi'.symm)
  have hlast : ∀ i ∈ s.track, i.id = id → i.pendingBanks = BitVec.twoPow 4 b.val →
      retireItem id b s.track = s.track.filter (fun j => j.id ≠ id)
        ∧ (retireItem id b s.track).length ≠ s.track.length := by
    intro i hi hid hpending
    have hfilter := retireItem_of_last (items := s.track) (b := b) fun j hj hj' => by
      rw [hunique i hi j hj hid hj']; exact hpending
    refine ⟨hfilter, ?_⟩
    rw [hfilter, Ne, List.length_filter_eq_length_iff]
    exact fun hall => by simpa [hid] using hall i hi
  have hnotLast : ∀ i ∈ s.track, i.id = id → i.pendingBanks.getLsbD b.val = true →
      i.pendingBanks ≠ BitVec.twoPow 4 b.val →
      retireItem id b s.track = s.track.map (fun j => if j.id = id then j.without b else j) := fun i hi hid hget hother =>
    retireItem_of_notLast fun j hj hj' => by rw [hunique i hi j hj hid hj']; exact ⟨hget, hother⟩
  by_cases hlen : (retireItem id b s.track).length = s.track.length
  · refine ⟨reportTaken b rest (retireItem id b s.track) s, (exec_retirementReport hrun hreports).trans ?_, ?_, rfl, rfl,
      rfl, rfl, rfl, rfl, rfl, fun c => reportTaken_bankHanded b c rest _ s, rfl, fun i hi hid hpending => ?_,
      fun i hi hid hget hother => ⟨hnotLast i hi hid hget hother, rfl, rfl⟩,
      fun hnone => ⟨retireItem_of_notPending hnone, rfl, rfl⟩⟩
    · exact congrArg Host.Outcome.next (if_pos hlen)
    · rw [reportTaken_bankHanded, if_pos rfl]
    · exact absurd hlen (hlast i hi hid hpending).2
  · rw [exec_retirementReport hrun hreports]
    refine ⟨_, congrArg Host.Outcome.next (if_neg hlen), ?_⟩
    have hbanks := fun c => reportTaken_bankHanded b c rest (retireItem id b s.track) s
    obtain ⟨hhigh, hlow, hbetween⟩ := reportOccupancy_occupancy (s := reportTaken b rest (retireItem id b s.track) s) hline
    rw [countReported_eq]
    refine ⟨(congrArg BankHanded.retired (hbanks b)).trans (if_pos rfl), rfl, rfl, rfl, rfl, rfl, rfl, rfl, hbanks, rfl,
      fun i hi hid hpending => ⟨(hlast i hi hid hpending).1, hhigh, hlow, hbetween, rfl⟩,
      fun i hi hid hget hother => absurd ?_ hlen, fun hnone => absurd ?_ hlen⟩
    · rw [hnotLast i hi hid hget hother, List.length_map]
    · rw [retireItem_of_notPending hnone]

end Sys2Proof.Machine

/-! A flush, and the changes of mode with and without one (R33, R105, R108, R135, R148). -/

namespace Sys2Proof.Machine

/-! ## FLUSH -/

theorem flushBank_abandoned (u : BankUnit) :
    (flushBank u).counters.abandoned.toNat = min (u.counters.abandoned.toNat + u.windows.length) 4294967295 := by
  rw [← satAdd_toNat]
  rfl

theorem flushLine_fields (s : State) :
    flushLine s = { s with
      track := [], banks := (flushLine s).banks
      handed := { s.handed with
        occupancy := (flushLine s).handed.occupancy, banks := (flushLine s).handed.banks } } := by
  apply State.eq_of_fields
  case h16 => apply Handed.eq_of_fields <;> simp
  all_goals simp

/-- Settles O40: by what `flushLine` does to each bank and to the reports. -/
theorem flushAbandonsEveryWindow : Obligations.FlushAbandonsEveryWindow := by
  intro s hrun hline
  refine ⟨flushLine s, whenRunning_running _ hrun, by simp, fun b => ?_, flushLine_occupancy hline, by simp, by simp,
    by simp, by simp, by simp, by simp, by simp, by simp, by simp, flushLine_fields s⟩
  rw [flushLine_bank, flushLine_bankHanded]
  exact ⟨rfl, rfl, rfl, rfl, rfl, rfl, rfl, rfl, rfl, rfl, rfl, rfl⟩

/-! ## A change of mode with a flush -/

theorem takeMode_notFiring {m : Mode} (hm : m.firing = false) (u : BankUnit) :
    takeMode m u = clearComposed { u with mode := m } := by
  simp [takeMode, hm]

theorem clearComposed_lane (u : BankUnit) (i : Fin 128) :
    (clearComposed u).lanes[i] =
      if u.composed.getLsbD i.val = true then { u.lanes[i] with onRun := 0, holdLeft := 0 } else u.lanes[i] := by
  simp [clearComposed]

theorem blocked_of_notFiring {u : BankUnit} (hm : u.mode.firing = false) (k : Conditions) (i : Nat) :
    blocked k u i = true := by
  simp [blocked, hm]

/-- In a mode that does not fire every lane is blocked, and the composed image is all-off (R90, R105). -/
theorem composeImage_of_notFiring {u : BankUnit} (hm : u.mode.firing = false) (k : Conditions) : composeImage k u = 0 := by
  have hblocked := blocked_of_notFiring hm k
  have hholds : holdLanes k u = [] := by simp [holdLanes, holdLane, hblocked]
  have hcandidates : candidates k u = [] := by simp [candidates, candidate?, hblocked]
  have hgranted : granted k u = [] := by simp [granted, contenders, hcandidates]
  have hoff : ∀ n, imageOf n (fun _ => false) = 0 := by
    intro n
    induction n with
    | zero => rfl
    | succ n ih => exact ih
  unfold composeImage
  simp only [hholds, hgranted]
  exact hoff _

/-- A bank with an empty list and an all-off image, in a mode that does not fire, after a boundary. -/
theorem turnSlot_of_notFiring {u : BankUnit} (hm : u.mode.firing = false) (hw : u.windows = []) (k : Conditions) :
    (turnSlot k u).mode = u.mode ∧ (turnSlot k u).windows = [] ∧ (turnSlot k u).composed = 0
      ∧ (turnSlot k u).latched = u.latched := by
  have hretired : (retireClosed k.p u).mode.firing = false := hm
  rw [turnSlot, countHold_eq]
  refine ⟨rfl, ?_, composeImage_of_notFiring hretired k, rfl⟩
  simp [compose, retireClosed, hw]

theorem flushInto_fields (m : Mode) (s : State) :
    flushInto m s = { s with
      mc := (flushInto m s).mc, track := [], banks := (flushInto m s).banks
      handed := { s.handed with
        occupancy := (flushInto m s).handed.occupancy, stationModes := (flushInto m s).handed.stationModes
        banks := (flushInto m s).handed.banks } } := by
  apply State.eq_of_fields
  case h16 => apply Handed.eq_of_fields <;> simp
  all_goals simp

/-- The boundary that a bank in use takes next after such a flush (R108). -/
theorem boundary_after_flushInto {m : Mode} (hm : m.firing = false) {s : State} {b : BankIx} {n : BitVec 8}
    {rest : List (BitVec 8)} (hrun : s.inReset = false) (hkind : (s.bank b).desc.kind ≠ .disabled)
    (hn : (s.bankHanded b).boundaries = n :: rest) :
    ∃ u, exec (.slotBoundary (.bank b)) (flushInto m s) = .next u
      ∧ (u.bank b).mode = m ∧ (u.bank b).windows = [] ∧ (u.bank b).composed = 0 ∧ (u.bank b).latched = 0
      ∧ (u.bankHanded b).retired = [] := by
  generalize ht : flushInto m s = t
  have hbank : t.bank b = takeMode m (flushBank (s.bank b)) := by rw [← ht, flushInto_bank]
  have hreports : t.bankHanded b = { s.bankHanded b with retired := [], modes := [] } := by
    rw [← ht, flushInto_bankHanded]
  have htrun : t.inReset = false := by rw [← ht]; simpa using hrun
  have hstep : bankBoundary b t =
      boundaryInUse b n (t.setBankHanded b { t.bankHanded b with boundaries := rest }) := by
    unfold bankBoundary
    simp only [hreports, hn]
    exact if_neg (by rw [hbank]; simpa [flushBank] using hkind)
  refine ⟨_, (whenRunning_running _ htrun).trans (congrArg Host.Outcome.next hstep), ?_⟩
  rw [boundaryInUse_bank, boundaryInUse_bankHanded, State.bank_setBankHanded, State.bankHanded_setBankHanded_self]
  have hcleared : (t.bank b).composed = 0 := by rw [hbank, takeMode_notFiring hm]; rfl
  have hempty : (t.bank b).windows = [] := by rw [hbank]; simp [flushBank]
  have hmode : (t.bank b).mode = m := by rw [hbank]; simp
  obtain ⟨h1, h2, h3, h4⟩ := turnSlot_of_notFiring (u := { t.bank b with latched := (t.bank b).composed })
    (show (t.bank b).mode.firing = false by rw [hmode, hm]) hempty
    (conditions (t.setBankHanded b { t.bankHanded b with boundaries := rest }))
  exact ⟨h1.trans hmode, h2, h3, h4.trans hcleared, by simp [hempty, hreports]⟩

/-- Settles O17: by what `changeMode` and `flushInto` do, and the boundary that follows. -/
theorem changesOfModeAreHandedOn : Obligations.ChangesOfModeAreHandedOn := by
  refine ⟨fun m s => ⟨rfl, rfl, changeMode_bankHanded m s, rfl, rfl, rfl, rfl, rfl, rfl, rfl, rfl⟩, fun m s t hm ht => ?_,
    fun cause s => rfl⟩
  have hfiring : m.firing = false := by obtain rfl | rfl := hm <;> rfl
  subst ht
  refine ⟨by simp, by simp, fun b => ?_, by simp, by simp, by simp, by simp, by simp, by simp, by simp, fun hline => ?_,
    by simp, fun b => ?_, flushInto_fields m s, fun b n rest hrun hkind hn => boundary_after_flushInto hfiring hrun hkind hn⟩
  · rw [flushInto_bank]
    refine ⟨by simp [flushBank], ?_, by simp, ?_, by simp [flushBank], by simp [flushBank], by simp [flushBank],
      by simp [flushBank], fun i => ?_⟩
    · rw [← flushBank_abandoned]
      simp
    · rw [takeMode_notFiring hfiring]
      rfl
    · rw [takeMode_notFiring hfiring, clearComposed_lane]
      rfl
  · rw [← flushLine_occupancy hline]
    rfl
  · rw [flushInto_bank]
    simp [flushBank]

end Sys2Proof.Machine

/-! READ TABLE, and the refusals of WRITE TABLE (R36, R52 to R54, R60, R61, R64, R79, R116, R119, R174, R175, R193 to
R195). -/

namespace Sys2Proof.Machine

/-! ## The refusals of a write -/

theorem writeLineAct_refused (i : Nat) (bytes : List Byte) (s : State) :
    (i ≠ 0 → writeLineAct i bytes s = (s, ⟨.index, []⟩))
      ∧ (i = 0 → s.running = true → writeLineAct i bytes s = (s, ⟨.mode, []⟩))
      ∧ (i = 0 → s.running = false → (LineEntry.ofBytes bytes).inRange = false →
          writeLineAct i bytes s = (s, ⟨.range, []⟩)) := by
  unfold writeLineAct
  exact ⟨fun hi => if_pos hi, fun hi hrun => (if_neg (not_not.2 hi)).trans (if_pos hrun), fun hi hrun hr =>
    (if_neg (not_not.2 hi)).trans ((if_neg (by simp [hrun])).trans (if_pos (by simp [hr])))⟩

theorem writeStationAct_refused (i : Nat) (bytes : List Byte) (s : State) :
    (i ≠ 0 → writeStationAct i bytes s = (s, ⟨.index, []⟩))
      ∧ (i = 0 → (StationEntry.ofBytes bytes).inRange = false → writeStationAct i bytes s = (s, ⟨.range, []⟩)) := by
  unfold writeStationAct
  exact ⟨fun hi => if_pos hi, fun hi hr => (if_neg (not_not.2 hi)).trans (if_pos (by simp [hr]))⟩

theorem writeBandAct_refused (i : Nat) (bytes : List Byte) (s : State) :
    (7 < i → writeBandAct i bytes s = (s, ⟨.index, []⟩))
      ∧ (i ≤ 7 → (BandEntry.ofBytes bytes).inRange = false → writeBandAct i bytes s = (s, ⟨.range, []⟩)) := by
  unfold writeBandAct
  exact ⟨fun hi => dif_neg (by omega), fun hi hr => (dif_pos (by omega)).trans (if_pos (by simp [hr]))⟩

theorem identityDiffers_iff (e : BankEntry) (bytes : List Byte) :
    identityDiffers e bytes = true ↔ fld bytes 0 1 ≠ e.kind.code ∨ fld bytes 1 1 ≠ e.node ∨ fld bytes 2 1 ≠ e.lanes := by
  simp [identityDiffers, or_assoc]

theorem writeBankAct_index {i : Nat} (hi : 3 < i) (bytes : List Byte) (s : State) :
    writeBankAct i bytes s = (s, ⟨.index, []⟩) :=
  dif_neg (by omega)

theorem writeBankAct_refused (b : BankIx) (bytes : List Byte) (s : State) :
    (s.running = true ∧ identityDiffers (s.bank b).desc bytes = true →
        writeBankAct b.val bytes s = (s, ⟨.mode, []⟩))
      ∧ (¬ (s.running = true ∧ identityDiffers (s.bank b).desc bytes = true) →
          (∀ e, BankEntry.ofBytes bytes = some e → e.inRange = false) →
          writeBankAct b.val bytes s = (s, ⟨.range, []⟩)) := by
  unfold writeBankAct
  rw [dif_pos b.isLt, ← Bool.and_eq_true]
  refine ⟨fun h => if_pos h, fun h hr => (if_neg h).trans ?_⟩
  split
  · rfl
  · rename_i e he
    rw [hr e he]
    rfl

theorem writeRecipeAct_refused (set : Fin 2) (i : Nat) (bytes : List Byte) (s : State) :
    (48 < i → writeRecipeAct set i bytes s = (s, ⟨.index, []⟩))
      ∧ (i ≤ 48 → s.running = true ∧ set = s.cls.active → writeRecipeAct set i bytes s = (s, ⟨.activeSet, []⟩))
      ∧ (¬ (s.running = true ∧ set = s.cls.active) → i < 48 → (∀ e, Rule.ofBytes bytes = some e → e.inRange = false) →
          writeRecipeAct set i bytes s = (s, ⟨.range, []⟩))
      ∧ (¬ (s.running = true ∧ set = s.cls.active) → i = 48 →
          (∀ e, RuleResult.ofBytes bytes = some e → e.inRange = false) →
          writeRecipeAct set i bytes s = (s, ⟨.range, []⟩)) := by
  unfold writeRecipeAct
  refine ⟨fun hi => if_pos hi, fun hi hset => (if_neg (Nat.not_lt.2 hi)).trans (if_pos hset), fun hset hi hr => ?_,
    fun hset hi hr => ?_⟩
  · rw [if_neg (by omega), if_neg hset, dif_pos hi]
    split
    · rfl
    · rename_i e he
      rw [hr e he]
      rfl
  · rw [if_neg (by omega), if_neg hset, dif_neg (by omega)]
    split
    · rfl
    · rename_i e he
      rw [hr e he]
      rfl

/-- Settles O56: by the refusals of each table's act. -/
theorem refusedWritesChangeNothing : Obligations.RefusedWritesChangeNothing := by
  intro s r rest i bytes running hs hrunning
  rw [← running_iff] at hrunning
  rw [hrunning, Bool.not_eq_true]
  refine ⟨fun hd => serve_answers hs (by rw [hd]) rfl, fun hd => serve_answers hs (by rw [hd]) rfl, fun hd => ?_,
    fun hd => ?_, fun hd => ?_, fun hd => ?_, fun set hd => ?_⟩
  · obtain ⟨hindex, hmode, hrange⟩ := writeLineAct_refused i bytes s
    exact ⟨fun hi => serve_answers hs (by rw [hd]) (hindex hi), fun hi h => serve_answers hs (by rw [hd]) (hmode hi h),
      fun hi h hr => serve_answers hs (by rw [hd]) (hrange hi h hr)⟩
  · obtain ⟨hindex, hrange⟩ := writeStationAct_refused i bytes s
    exact ⟨fun hi => serve_answers hs (by rw [hd]) (hindex hi), fun hi hr => serve_answers hs (by rw [hd]) (hrange hi hr)⟩
  · obtain ⟨hindex, hrange⟩ := writeBandAct_refused i bytes s
    exact ⟨fun hi => serve_answers hs (by rw [hd]) (hindex hi), fun hi hr => serve_answers hs (by rw [hd]) (hrange hi hr)⟩
  · refine ⟨fun hi => serve_answers hs (by rw [hd]) (writeBankAct_index hi bytes s), fun b hb => ?_⟩
    subst hb
    rw [← identityDiffers_iff]
    obtain ⟨hmode, hrange⟩ := writeBankAct_refused b bytes s
    exact ⟨fun h => serve_answers hs (by rw [hd]) (hmode h), fun h hr => serve_answers hs (by rw [hd]) (hrange h hr)⟩
  · obtain ⟨hindex, hactive, hrule, hdefault⟩ := writeRecipeAct_refused set i bytes s
    exact ⟨fun hi => serve_answers hs (by rw [hd]) (hindex hi),
      fun hi h hset => serve_answers hs (by rw [hd]) (hactive hi ⟨h, hset⟩),
      fun h hi hr => serve_answers hs (by rw [hd]) (hrule h hi hr),
      fun h hi hr => serve_answers hs (by rw [hd]) (hdefault h hi hr)⟩

/-! ## The bytes of an item and of a window -/

theorem be_u16 (n : Nat) : be (u16 n) = n % 65536 := by
  simp only [be, u16, List.foldl, BitVec.toNat_ofNat]
  omega

theorem be_u32 (n : Nat) : be (u32 n) = n % 4294967296 := by
  simp only [be, u32, u24, u16, List.foldl, BitVec.toNat_ofNat]
  omega

theorem ofNat_bool (b : Bool) : BitVec.ofNat 8 b.toNat = if b = true then 1 else 0 := by
  cases b <;> rfl

theorem byte_toNat {n : Nat} (h : n < 256) : (BitVec.ofNat 8 n).toNat = n := by
  rw [BitVec.toNat_ofNat, Nat.mod_eq_of_lt h]

theorem optPos_eq (p : Option (BitVec 32)) :
    optPos p = u8 p.isSome.toNat ++ u32 (match p with
      | none => 0
      | some v => v.toNat) := by
  cases p <;> rfl

/-! ### A field of a layout is found by leaving out what stands before it -/

theorem fld_skip {f rest : List Byte} {n off len : Nat} (hf : f.length = n) (h : n ≤ off) :
    fld (f ++ rest) off len = fld rest (off - n) len := by
  unfold fld
  rw [List.drop_append, List.drop_of_length_le (hf.trans_le h), hf, List.nil_append]

theorem getD_skip {f rest : List Byte} {n i : Nat} (hf : f.length = n) (h : n ≤ i) :
    (f ++ rest).getD i 0 = rest.getD (i - n) 0 := by
  rw [List.getD_append_right _ _ _ _ (hf.trans_le h), hf]

section Skips

variable {n i off len : Nat} {rest : List Byte}

theorem fld_u8_skip (h : 1 ≤ off) : fld (u8 n ++ rest) off len = fld rest (off - 1) len := fld_skip rfl h
theorem fld_u16_skip (h : 2 ≤ off) : fld (u16 n ++ rest) off len = fld rest (off - 2) len := fld_skip rfl h
theorem fld_u32_skip (h : 4 ≤ off) : fld (u32 n ++ rest) off len = fld rest (off - 4) len := fld_skip rfl h
theorem getD_u8_skip (h : 1 ≤ i) : (u8 n ++ rest).getD i 0 = rest.getD (i - 1) 0 := getD_skip rfl h
theorem getD_u16_skip (h : 2 ≤ i) : (u16 n ++ rest).getD i 0 = rest.getD (i - 2) 0 := getD_skip rfl h
theorem getD_u32_skip (h : 4 ≤ i) : (u32 n ++ rest).getD i 0 = rest.getD (i - 4) 0 := getD_skip rfl h

theorem fld_u16_head : fld (u16 n ++ rest) 0 2 = n % 65536 := be_u16 n
theorem fld_u32_head : fld (u32 n ++ rest) 0 4 = n % 4294967296 := be_u32 n
theorem getD_u8_head : (u8 n ++ rest).getD 0 0 = BitVec.ofNat 8 n := rfl
theorem getD_u8 : (u8 n).getD 0 0 = BitVec.ofNat 8 n := rfl

end Skips

theorem item_layout (i : Item) :
    i.bytes.length = 34
      ∧ fld i.bytes 0 2 = i.id.toNat ∧ fld i.bytes 2 4 = i.entryPos.toNat
      ∧ i.bytes.getD 6 0 = BitVec.ofNat 8 i.laneLo ∧ i.bytes.getD 7 0 = BitVec.ofNat 8 i.laneHi
      ∧ i.bytes.getD 8 0 = BitVec.ofNat 8 i.centroid ∧ i.bytes.getD 9 0 = (if i.centroidSent then 1 else 0)
      ∧ fld i.bytes 10 4 = i.leadPos.toNat ∧ fld i.bytes 14 4 = i.trailPos.toNat ∧ fld i.bytes 18 2 = i.cls.toNat
      ∧ fld i.bytes 20 2 = i.area % 65536 ∧ i.bytes.getD 22 0 = BitVec.ofNat 8 i.confidence
      ∧ i.bytes.getD 23 0 = (if i.tag = none then 0 else 1)
      ∧ fld i.bytes 24 4 = (match i.tag with
        | none => 0
        | some v => v.toNat)
      ∧ i.bytes.getD 28 0 = (if i.touching then 1 else 0) ∧ i.bytes.getD 29 0 = (if i.atEdge then 1 else 0)
      ∧ i.bytes.getD 30 0 = (if i.clipped then 1 else 0) ∧ (i.bytes.getD 31 0).toNat = i.recipeSet.val
      ∧ i.bytes.getD 32 0 = BitVec.ofNat 8 i.rule ∧ (i.bytes.getD 33 0).toNat = i.pendingBanks.toNat := by
  have hset : i.recipeSet.val < 256 := by omega
  have hpending : i.pendingBanks.toNat < 256 := by omega
  have hlength : i.bytes.length = 34 := by
    simp [Item.bytes, optPos_eq, yesNo, u8, u16, u32, u24]
  refine ⟨hlength, ?_⟩
  simp only [Item.bytes, optPos_eq, yesNo, List.append_assoc, fld_u8_skip, fld_u16_skip, fld_u32_skip, getD_u8_skip,
    getD_u16_skip, getD_u32_skip, fld_u16_head, fld_u32_head, getD_u8_head, getD_u8, Nat.reduceLeDiff, Nat.reduceSub]
  refine ⟨Nat.mod_eq_of_lt i.id.isLt, Nat.mod_eq_of_lt i.entryPos.isLt, trivial, trivial, trivial, ofNat_bool _,
    Nat.mod_eq_of_lt i.leadPos.isLt, Nat.mod_eq_of_lt i.trailPos.isLt, Nat.mod_eq_of_lt i.cls.isLt, trivial, trivial, ?_, ?_,
    ofNat_bool _, ofNat_bool _, ofNat_bool _, byte_toNat hset, trivial, byte_toNat hpending⟩
  · cases i.tag <;> rfl
  · cases i.tag with
    | none => rfl
    | some v => exact Nat.mod_eq_of_lt v.isLt

theorem packLanes_get (image : Image) {k : Nat} (hk : k < 128) :
    ((packLanes image 128).getD (k / 8) 0).getLsbD (k % 8) = image.getLsbD k := by
  have hbyte : (packLanes image 128).getD (k / 8) 0 =
      ((image &&& (BitVec.allOnes 128 >>> (128 - 128))) >>> (8 * (k / 8))).setWidth 8 := by
    have hj : k / 8 < 16 := by omega
    simp [packLanes, hj]
  have hsum : 8 * (k / 8) + k % 8 = k := Nat.div_add_mod k 8
  have hmod : k % 8 < 8 := Nat.mod_lt _ (by decide)
  rw [hbyte, Nat.sub_self, BitVec.ushiftRight_zero, BitVec.and_allOnes, BitVec.getLsbD_setWidth, BitVec.getLsbD_ushiftRight,
    hsum, decide_eq_true hmod, Bool.true_and]

theorem window_layout (w : Window) :
    w.bytes.length = 39
      ∧ fld w.bytes 0 2 = w.item.toNat
      ∧ w.bytes.getD 2 0 = (match w.kind with
        | .eject => 1
        | .protect => 2)
      ∧ w.bytes.getD 3 0 = BitVec.ofNat 8 w.lo ∧ w.bytes.getD 4 0 = BitVec.ofNat 8 w.hi
      ∧ fld w.bytes 5 4 = w.openPos.toNat ∧ fld w.bytes 9 4 = w.closePos.toNat
      ∧ w.bytes.getD 13 0 = BitVec.ofNat 8 w.priority
      ∧ w.bytes.getD 14 0 = (match w.state with
        | .waiting => 0
        | .opened => 1)
      ∧ w.bytes.getD 15 0 = (if w.trimmed then 1 else 0)
      ∧ fld w.bytes 16 2 = w.due.toNat ∧ fld w.bytes 18 2 = w.full.toNat ∧ fld w.bytes 20 2 = w.any.toNat
      ∧ w.bytes.getD 22 0 = (if w.protectDenied then 1 else 0)
      ∧ ∀ k, k < 128 → (w.bytes.getD (23 + k / 8) 0).getLsbD (k % 8) = w.truncated.getLsbD k := by
  have hlength : w.bytes.length = 39 := by
    simp [Window.bytes, packLanes, yesNo, u8, u16, u32, u24]
  have hlanes : ∀ j, w.bytes.getD (23 + j) 0 = (packLanes w.truncated 128).getD j 0 := by
    intro j
    unfold Window.bytes
    rw [getD_skip (n := 23) (by simp [yesNo, u8, u16, u32, u24]) (Nat.le_add_right 23 j), Nat.add_sub_cancel_left]
  refine ⟨hlength, ?_⟩
  simp only [hlanes]
  simp only [Window.bytes, yesNo, List.append_assoc, fld_u8_skip, fld_u16_skip, fld_u32_skip, getD_u8_skip,
    getD_u16_skip, getD_u32_skip, fld_u16_head, fld_u32_head, getD_u8_head, Nat.reduceLeDiff, Nat.reduceSub]
  refine ⟨Nat.mod_eq_of_lt w.item.isLt, ?_, trivial, trivial, Nat.mod_eq_of_lt w.openPos.isLt,
    Nat.mod_eq_of_lt w.closePos.isLt, trivial, ?_, ofNat_bool _, Nat.mod_eq_of_lt w.due.isLt, Nat.mod_eq_of_lt w.full.isLt,
    Nat.mod_eq_of_lt w.any.isLt, ofNat_bool _, fun k hk => packLanes_get w.truncated hk⟩
  · cases w.kind <;> rfl
  · cases w.state <;> rfl

/-! ## READ TABLE -/

theorem answerTable_eq {α : Type} (t : TableId) (bank first count most : Nat) (extra : List Byte) (bytes : α → List Byte)
    (entries : List α) :
    answerTable t bank first count most extra bytes entries =
      tableRead t.code bank first count most extra (entries.map bytes) := by
  unfold answerTable tableRead
  have hcond : (entries.length ≤ first ∧ ¬ (first = 0 ∧ entries = [])) ↔
      ¬ (first < (entries.map bytes).length ∨ first = 0 ∧ (entries.map bytes).length = 0) := by
    rw [List.length_map, List.length_eq_zero_iff, not_or, Nat.not_lt]
  by_cases h : first < (entries.map bytes).length ∨ first = 0 ∧ (entries.map bytes).length = 0
  · rw [if_pos h, if_neg (hcond.not.2 (not_not.2 h))]
    simp [view, tableResults]
  · rw [if_neg h, if_pos (hcond.2 h)]

/-- Settles O53: the layouts by `item_layout` and `window_layout`, each table by `answerTable_eq`. -/
theorem tableReadsAnswerTheEntries : Obligations.TableReadsAnswerTheEntries := by
  refine ⟨item_layout, window_layout, fun s r rest bank first count hs => ⟨fun hd => ?_, fun hd => ?_, fun hd => ?_,
    fun hd => ?_, fun set hd => ?_, fun hd => ?_, fun b hb hd => ?_, fun hb hd => ?_⟩⟩
  case refine_1 | refine_2 | refine_3 | refine_6 =>
    exact serve_answers hs (by rw [hd]) (congrArg (Prod.mk s) (answerTable_eq ..))
  · refine serve_answers hs (by rw [hd]) (congrArg (Prod.mk s) ((answerTable_eq ..).trans ?_))
    rw [List.map_map]
    rfl
  · refine serve_answers hs (by rw [hd]) (congrArg (Prod.mk s) ((answerTable_eq ..).trans ?_))
    rw [RecipeSet.entries, List.map_append]
    rfl
  · subst hb
    exact serve_answers hs (by rw [hd]) (congrArg (Prod.mk s) ((dif_pos b.isLt).trans (answerTable_eq ..)))
  · exact serve_answers hs (by rw [hd]) (congrArg (Prod.mk s) (dif_neg (Nat.not_lt.2 hb)))

end Sys2Proof.Machine

/-! SOFT RESET: its acceptance, what it clears and keeps, and the emergency stop after it (R107, R110, R115, R133, R152,
R170, R179, R180). -/

namespace Sys2Proof.Machine

/-! ## The request -/

theorem settled_of_notReset {x : TxFrame} (h : x.isResetAnswer = false) : x.settled = x := by
  cases x with
  | resetAnswer f => cases h
  | _ => rfl

theorem map_settled_queue {queue : List TxFrame} (h : ∀ x ∈ queue, x.isResetAnswer = false) :
    queue.map TxFrame.settled = queue :=
  (List.map_congr_left fun x hx => settled_of_notReset (h x hx)).trans (List.map_id _)

theorem map_settled_tx {tx : Option TxFrame} (h : ∀ x, tx = some x → x.isResetAnswer = false) :
    tx.map TxFrame.settled = tx := by
  cases tx with
  | none => rfl
  | some x => exact congrArg some (settled_of_notReset (h x rfl))

theorem exec_softReset {s : State} {r : Request} {rest : List Request} (hs : Serves s r rest)
    (hd : decodeRequest r.payload = .softReset) : exec .softReset s = .next (acceptReset r s) := by
  obtain ⟨hrun, hnone, hqueue⟩ := hs
  dsimp only [exec, execSoftReset]
  rw [whenRunning_running _ hrun, if_neg (not_not.2 hnone), hqueue]
  exact congrArg Host.Outcome.next (if_pos hd)

/-- A SOFT RESET with no answer of an earlier one among the return frames. -/
theorem acceptReset_first {s : State} (r : Request) (hqueue : ∀ x ∈ s.portU.queue, x.isResetAnswer = false)
    (htx : ∀ x, s.portU.tx = some x → x.isResetAnswer = false) :
    acceptReset r s =
      if s.portU.queue.length < 8 then
        offerReturn { s with
          portU := { s.portU with queue := s.portU.queue ++ [.resetAnswer (answerFrame r .done)] }
          mgmt := { s.mgmt with softReset := if s.linked .u then .waiting else .due none } }
      else { s with mgmt := { s.mgmt with softReset := .due (some (answerFrame r .done)) } } := by
  unfold acceptReset
  rw [map_settled_queue hqueue, map_settled_tx htx]
  rfl

/-! ## The links -/

theorem endRun_link_other {s : State} {p : PortId} (h : ∀ run, s.proving.run = some run → run.port ≠ p) :
    (endRun s).link p = s.link p := by
  unfold endRun
  split
  · rfl
  · rename_i run hrun
    exact State.link_setLink_ne s (Ne.symm (h run hrun)) _

theorem endRun_link_state {s : State} {run : ProvingRun} (h : s.proving.run = some run) :
    ((endRun s).link run.port).state = if (s.link run.port).signal = true then .training else .down := by
  unfold endRun
  rw [h]
  change ((leaveProving run.port s).link run.port).state = _
  rw [leaveProving, State.link_setLink_self]
  split <;> rfl

theorem resetPorts_link (kept : Option Frame) (s : State) (p : PortId) :
    (resetPorts kept s).link p = ((endRun s).link p).clearCounters := by
  cases p <;> rfl

/-! ## The blocks emptied, before the reset sends its frames -/

/-- Every block but the Station Controller reset, and no frame sent yet. -/
def emptied (kept : Option Frame) (s : State) : State :=
  { resetPorts kept s with
    pos := { s.pos with illegal := 0 }
    intake := ⟨[], 0, .zero⟩
    cls := { s.cls with tallies := Vector.replicate 2 (Vector.replicate 49 0) }
    track := []
    banks := s.banks.map resetBank
    mc := ⟨.standby, .none, 0, none, none⟩
    mgmt := { s.mgmt with queue := [], flags := 0, alert := false, softReset := .none }
    handed := resetHanded s.handed }

theorem resetBlocks_eq (kept : Option Frame) (s : State) :
    resetBlocks kept s = resetStation (offerReturn (emptied kept s)) := by
  unfold resetBlocks emptied
  simp only [resetPorts_frame]

theorem resetStation_link (s : State) (p : PortId) : (resetStation s).link p = s.link p := by
  obtain ⟨-, -, hlink, -⟩ := resetStation_frame_at s
  exact hlink p

theorem resetStation_linked (s : State) (p : PortId) : (resetStation s).linked p = s.linked p := by
  obtain ⟨-, -, -, hlinked⟩ := resetStation_frame_at s
  exact hlinked p

theorem offerReturn_link (s : State) (p : PortId) : (offerReturn s).link p = s.link p := by
  obtain ⟨-, -, hlink, -⟩ := offerReturn_frame_at s
  exact hlink p

theorem resetBlocks_link (kept : Option Frame) (s : State) (p : PortId) :
    (resetBlocks kept s).link p = ((endRun s).link p).clearCounters := by
  rw [← resetPorts_link kept s p, resetBlocks_eq, resetStation_link]
  exact State.link_congr (by simp [emptied]) (by simp [emptied]) p

theorem emptied_bank (kept : Option Frame) (s : State) (b : BankIx) : (emptied kept s).bank b = resetBank (s.bank b) := by
  simp [emptied, State.bank]

/-! ## The Station Controller's part -/

theorem holdsFeeder_iff (u : BankUnit) :
    u.holdsFeeder = true ↔ u.desc.kind = .air ∧ 0 < u.airLow ∧ u.desc.airFeedHold = true := by
  simp [BankUnit.holdsFeeder, BankUnit.onReserve, and_assoc]

theorem airBanksOf_get (s : State) (b : BankIx) : (airBanksOf s).getLsbD b.val = (s.bank b).holdsFeeder := by
  unfold airBanksOf
  rw [foldl_twoPow_get fun b => (s.bank b).holdsFeeder]
  simp [BankIx.mem_all]

theorem banks_ne_zero_iff : ∀ v : BitVec 4, v ≠ 0 ↔ ∃ b : BankIx, v.getLsbD b.val = true := by
  decide

theorem resetStation_station (s : State) :
    (resetStation s).station = { s.station with
      mode := .standby, current := 0, closed := Vector.replicate 7 0, b := 0, band := 0, airBanks := airBanksOf s
      target := clamp s.station.entry.rotIdle s.station.entry.rotMin s.station.entry.rotMax
      holds := ⟨true, false, false, !s.linked .d, decide (airBanksOf s ≠ 0), false⟩, command := .hold } := by
  simp [resetStation, Station.retarget, Station.targetOf, Mode.firing, HoldSet.command, HoldSet.any]

/-! ## The lanes after a reset -/

/-- A hold of the feeder with nothing waiting for Port D: its frame takes the free lane of a LINKED port, or waits for the
busy one (R125, R131, R163). -/
theorem setHolds_lane {h : HoldSet} {s : State} {hold : Frame} (hh : h.command = .hold)
    (hframe : hold = ⟨BitVec.ofNat 6 s.station.entry.feederNode, .drive, [3, 0, 1]⟩)
    (hfire : s.portD.fire = Vector.replicate 4 none) (hdrive : s.portD.drive = []) :
    (s.station.command = .release → (s.link .d).state = .linked → s.portD.tx = none →
        (setHolds h s).portD = { s.portD with tx := some (.own hold) })
      ∧ (s.station.command = .release → (s.link .d).state = .linked → s.portD.tx ≠ none →
        (setHolds h s).portD = { s.portD with drive := [(.feeder, hold)] })
      ∧ (s.station.command = .hold ∨ (s.link .d).state ≠ .linked → (setHolds h s).portD = s.portD) := by
  have hissue : s.station.command = .release → (s.link .d).state = .linked →
      ∃ s1, setHolds h s = offerForward s1 ∧ s1.portD = { s.portD with drive := [(.feeder, hold)] } := by
    intro hrelease hlinked
    have hvalue : driveFrame .feeder (Station.node (s.station.settle h) .feeder) (Station.value (s.station.settle h) .feeder)
        = hold := by
      simp [hframe, Station.settle, Station.value, Station.node, hh, driveFrame, StationId.code, u8, u16]
    unfold setHolds issueDrive
    dsimp only
    rw [if_neg (by rw [hh, hrelease]; decide), State.linked_setStation,
      if_pos (show s.linked .d = true from decide_eq_true hlinked)]
    refine ⟨_, rfl, ?_⟩
    rw [State.setStation_portD, State.setStation_station, hvalue, hdrive]
    rfl
  refine ⟨fun hrelease hlinked hfree => ?_, fun hrelease hlinked hbusy => ?_, fun hnone => ?_⟩
  · obtain ⟨s1, heq, hport⟩ := hissue hrelease hlinked
    have hlinked1 : (s1.link .d).state = .linked := by rw [State.link, hport]; exact hlinked
    have hrest := offerForward_rest hlinked1 (by rw [hport]; exact hfree) (by rw [hport, hfire]; simp)
    rw [heq, hrest.1 .feeder hold [] (by rw [hport]), hport, ← hdrive]
  · obtain ⟨s1, heq, hport⟩ := hissue hrelease hlinked
    rw [heq, offerForward_held (.inr (by rw [hport]; exact hbusy)), hport]
  · unfold setHolds
    dsimp only
    split
    · rfl
    · rename_i hchange
      have hdown := hnone.resolve_left fun hhold => hchange (by rw [hh, hhold])
      unfold issueDrive
      rw [State.linked_setStation, if_neg (show ¬ s.linked .d = true from mt of_decide_eq_true hdown)]
      rfl

theorem resetStation_lane {s : State} {hold : Frame}
    (hframe : hold = ⟨BitVec.ofNat 6 s.station.entry.feederNode, .drive, [3, 0, 1]⟩)
    (hfire : s.portD.fire = Vector.replicate 4 none) (hdrive : s.portD.drive = []) :
    (s.station.command = .release → (s.link .d).state = .linked → s.portD.tx = none →
        (resetStation s).portD = { s.portD with tx := some (.own hold) })
      ∧ (s.station.command = .release → (s.link .d).state = .linked → s.portD.tx ≠ none →
        (resetStation s).portD = { s.portD with drive := [(.feeder, hold)] })
      ∧ (s.station.command = .hold ∨ (s.link .d).state ≠ .linked → (resetStation s).portD = s.portD) := by
  obtain ⟨st, h, heq, hentry, hcommand, hh⟩ : ∃ st h, resetStation s = setHolds h (s.setStation st)
      ∧ st.entry = s.station.entry ∧ st.command = s.station.command ∧ h.command = .hold := ⟨_, _, rfl, rfl, rfl, rfl⟩
  rw [← hentry] at hframe
  rw [heq, ← hcommand]
  exact setHolds_lane (s := s.setStation st) hh hframe hfire hdrive

/-- The oldest of the answers that wait takes Port U's lane when it is free (R164). -/
theorem offerReturn_answers {s : State} (hreset : s.mgmt.softReset.isDue = false) :
    ((s.link .u).state = .linked → s.portU.tx = none →
        (offerReturn s).portU.tx = s.portU.queue.head? ∧ (offerReturn s).portU.queue = s.portU.queue.tail)
      ∧ ((s.link .u).state ≠ .linked ∨ s.portU.tx ≠ none →
        (offerReturn s).portU.tx = s.portU.tx ∧ (offerReturn s).portU.queue = s.portU.queue) := by
  refine ⟨fun hlinked hfree => ?_, fun hheld => ?_⟩
  · unfold offerReturn startReturn
    rw [if_pos ⟨decide_eq_true hlinked, hfree, hreset⟩]
    cases hq : s.portU.queue with
    | nil => exact ⟨hfree, hq⟩
    | cons f rest => exact ⟨rfl, rfl⟩
  · rw [offerReturn_held (hheld.imp_right .inl)]
    exact ⟨rfl, rfl⟩

/-- Port D after a reset: the arbiter empty but for the feeder's frame (R133, R170). -/
theorem resetBlocks_portD {kept : Option Frame} {s : State} {hold : Frame}
    (hframe : hold = ⟨BitVec.ofNat 6 s.station.entry.feederNode, .drive, [3, 0, 1]⟩) :
    ((s.station.command = .release → ((resetBlocks kept s).link .d).state = .linked → s.portD.tx = none →
          (resetBlocks kept s).portD.tx = some (.own hold) ∧ (resetBlocks kept s).portD.drive = [])
        ∧ (s.station.command = .release → ((resetBlocks kept s).link .d).state = .linked → s.portD.tx ≠ none →
          (resetBlocks kept s).portD.tx = s.portD.tx ∧ (resetBlocks kept s).portD.drive = [(.feeder, hold)])
        ∧ (s.station.command = .hold ∨ ((resetBlocks kept s).link .d).state ≠ .linked →
          (resetBlocks kept s).portD.tx = s.portD.tx ∧ (resetBlocks kept s).portD.drive = []))
      ∧ (resetBlocks kept s).portD.fire = Vector.replicate 4 none ∧ (resetBlocks kept s).portD.relay = [] := by
  generalize hy : offerReturn (emptied kept s) = y
  have hport : y.portD = { (resetPorts kept s).portD with relay := [], fire := Vector.replicate 4 none, drive := [] } := by
    rw [← hy]
    simp [emptied, resetPorts]
  have hfire : y.portD.fire = Vector.replicate 4 none := by rw [hport]
  have hdrive : y.portD.drive = [] := by rw [hport]
  have hrelay : y.portD.relay = [] := by rw [hport]
  have htx : y.portD.tx = s.portD.tx := by
    rw [hport]
    simp [resetPorts]
  have hstation : y.station = s.station := by
    rw [← hy]
    simp [emptied]
  have hreset : resetBlocks kept s = resetStation y := by rw [resetBlocks_eq, hy]
  rw [← hstation] at hframe
  obtain ⟨hfree, hbusy, hnone⟩ := resetStation_lane hframe hfire hdrive
  rw [hreset, resetStation_link, ← hstation, ← htx]
  refine ⟨⟨fun h1 h2 h3 => ?_, fun h1 h2 h3 => ?_, fun h => ?_⟩, ?_⟩
  · rw [hfree h1 h2 h3]; exact ⟨rfl, hdrive⟩
  · rw [hbusy h1 h2 h3]; exact ⟨rfl, rfl⟩
  · rw [hnone h]; exact ⟨rfl, hdrive⟩
  · by_cases h1 : y.station.command = .release
    · by_cases h2 : (y.link .d).state = .linked
      · by_cases h3 : y.portD.tx = none
        · rw [hfree h1 h2 h3]; exact ⟨hfire, hrelay⟩
        · rw [hbusy h1 h2 h3]; exact ⟨hfire, hrelay⟩
      · rw [hnone (.inr h2)]; exact ⟨hfire, hrelay⟩
    · have hhold : y.station.command = .hold := by
        cases hc : y.station.command with
        | release => exact absurd hc h1
        | hold => rfl
      rw [hnone (.inl hhold)]; exact ⟨hfire, hrelay⟩

/-! ## The all-off frames of an emergency stop -/

/-- The all-off frame of a bank (R107). -/
def offFrame (s : State) (b : BankIx) : Frame := fireFrame (s.bank b).desc.node s.pos.slot (s.bank b).desc.lanes 0

theorem offFrame_eq (s : State) (b : BankIx) :
    offFrame s b = ⟨BitVec.ofNat 6 (s.bank b).desc.node, .fire,
      s.pos.slot :: BitVec.ofNat 8 (s.bank b).desc.lanes :: List.replicate (((s.bank b).desc.lanes + 7) / 8) 0⟩ := by
  simp [offFrame, fireFrame, packLanes, u8]

theorem allOffBank_disabled {s : State} {a : BankIx} (h : (s.bank a).desc.kind = .disabled) : allOffBank s a = s :=
  if_pos h

theorem allOffBank_inUse {s : State} {a : BankIx} (h : (s.bank a).desc.kind ≠ .disabled) :
    ∃ u : BankUnit, u.desc = (s.bank a).desc ∧ u.latched = 0 ∧ allOffBank s a = handFire a s.pos.slot (s.setBank a u) :=
  ⟨{ clearComposed (s.bank a) with latched := 0 }, by simp [clearComposed], rfl, if_neg h⟩

theorem allOffBank_desc (s : State) (a b : BankIx) : ((allOffBank s a).bank b).desc = (s.bank b).desc := by
  by_cases ha : (s.bank a).desc.kind = .disabled
  · rw [allOffBank_disabled ha]
  · obtain ⟨u, hdesc, -, heq⟩ := allOffBank_inUse ha
    rw [heq, (handFire_frame_at _ _ _).1, State.bank_setBank]
    split
    · rename_i h
      rw [hdesc, h]
    · rfl

theorem offFrame_allOffBank (s : State) (a b : BankIx) : offFrame (allOffBank s a) b = offFrame s b := by
  simp [offFrame, allOffBank_desc]

theorem allOffBank_busy {s : State} {a : BankIx} (hkind : (s.bank a).desc.kind ≠ .disabled)
    (hlinked : (s.link .d).state = .linked) (hbusy : s.portD.tx ≠ none) :
    (allOffBank s a).portD.tx = s.portD.tx
      ∧ ∀ b : BankIx, (allOffBank s a).portD.fire[b] = if b = a then some (offFrame s a) else s.portD.fire[b] := by
  obtain ⟨u, hdesc, hlatched, heq⟩ := allOffBank_inUse hkind
  rw [heq, handFire_busy (s := s.setBank a u) _ _ hlinked hbusy, State.bank_setBank_self, hdesc, hlatched]
  refine ⟨rfl, fun b => ?_⟩
  simp only [Fin.getElem_fin, Vector.getElem_set, Fin.ext_iff, eq_comm (a := b.val)]
  rfl

theorem allOffBank_free {s : State} {a : BankIx} (hkind : (s.bank a).desc.kind ≠ .disabled)
    (hlinked : (s.link .d).state = .linked) (hfree : s.portD.tx = none) (hfire : ∀ b : BankIx, s.portD.fire[b] = none) :
    (allOffBank s a).portD.tx = some (.own (offFrame s a)) ∧ (allOffBank s a).portD.fire = s.portD.fire := by
  obtain ⟨u, hdesc, hlatched, heq⟩ := allOffBank_inUse hkind
  rw [heq, handFire_free (s := s.setBank a u) _ _ hlinked hfree hfire, State.bank_setBank_self, hdesc, hlatched]
  exact ⟨rfl, rfl⟩

/-- On a busy lane every all-off frame waits in its bank's place. -/
theorem allOff_busy {banks : List BankIx} (hnodup : banks.Nodup) {s : State} (hlinked : (s.link .d).state = .linked)
    (hbusy : s.portD.tx ≠ none) :
    (banks.foldl allOffBank s).portD.tx = s.portD.tx
      ∧ ∀ b : BankIx, (banks.foldl allOffBank s).portD.fire[b] =
          if b ∈ banks ∧ (s.bank b).desc.kind ≠ .disabled then some (offFrame s b) else s.portD.fire[b] := by
  induction banks generalizing s with
  | nil => simp
  | cons a banks ih =>
    obtain ⟨hnot, hnodup⟩ := List.nodup_cons.1 hnodup
    by_cases hkind : (s.bank a).desc.kind = .disabled
    · obtain ⟨htx, hfire⟩ := ih hnodup hlinked hbusy
      rw [List.foldl_cons, allOffBank_disabled hkind]
      refine ⟨htx, fun b => (hfire b).trans (if_congr ?_ rfl rfl)⟩
      rw [List.mem_cons]
      exact and_congr_left fun hb => (or_iff_right fun h : b = a => hb (h ▸ hkind)).symm
    · obtain ⟨htx1, hfire1⟩ := allOffBank_busy hkind hlinked hbusy
      obtain ⟨htx, hfire⟩ := ih hnodup (s := allOffBank s a) (by simpa using hlinked) (by rwa [htx1])
      rw [List.foldl_cons]
      refine ⟨htx.trans htx1, fun b => (hfire b).trans ?_⟩
      rw [offFrame_allOffBank, allOffBank_desc, hfire1]
      by_cases hb : b = a
      · subst hb
        simp [hnot, hkind]
      · simp [hb]

/-- On a free lane the all-off frame of the first bank in use goes at once, and the others wait (log 28). -/
theorem allOff_free {banks : List BankIx} (hsorted : banks.Pairwise (· < ·)) {s : State}
    (hlinked : (s.link .d).state = .linked) (hfree : s.portD.tx = none) (hfire : ∀ b : BankIx, s.portD.fire[b] = none)
    {b : BankIx} (hb : b ∈ banks) (hkind : (s.bank b).desc.kind ≠ .disabled) :
    ((∀ c ∈ banks, c < b → (s.bank c).desc.kind = .disabled) →
        (banks.foldl allOffBank s).portD.tx = some (.own (offFrame s b)) ∧ (banks.foldl allOffBank s).portD.fire[b] = none)
      ∧ ((∃ c ∈ banks, c < b ∧ (s.bank c).desc.kind ≠ .disabled) →
        (banks.foldl allOffBank s).portD.fire[b] = some (offFrame s b)) := by
  induction banks generalizing s with
  | nil => cases hb
  | cons a banks ih =>
    obtain ⟨hless, hsorted⟩ := List.pairwise_cons.1 hsorted
    have hnodup : banks.Nodup := hsorted.imp fun h => ne_of_lt h
    rw [List.foldl_cons]
    by_cases ha : (s.bank a).desc.kind = .disabled
    · have hba : b ≠ a := fun h => hkind (h ▸ ha)
      obtain ⟨hfirst, hlater⟩ := ih hsorted hlinked hfree hfire ((List.mem_cons.1 hb).resolve_left hba) hkind
      rw [allOffBank_disabled ha]
      refine ⟨fun h => hfirst fun c hc => h c (List.mem_cons_of_mem a hc), ?_⟩
      rintro ⟨c, hc, hlt, hcKind⟩
      exact hlater ⟨c, (List.mem_cons.1 hc).resolve_left fun h => hcKind (h ▸ ha), hlt, hcKind⟩
    · obtain ⟨htx1, hfire1⟩ := allOffBank_free ha hlinked hfree hfire
      obtain ⟨htx, hwaits⟩ := allOff_busy hnodup (s := allOffBank s a) (by simpa using hlinked) (by rw [htx1]; simp)
      rw [htx, htx1, hwaits, offFrame_allOffBank, allOffBank_desc, hfire1, hfire]
      obtain rfl | hmem := List.mem_cons.1 hb
      · have hnot : b ∉ banks := fun h => lt_irrefl b (hless b h)
        refine ⟨fun _ => ⟨rfl, if_neg fun h => hnot h.1⟩, ?_⟩
        rintro ⟨c, hc, hlt, -⟩
        obtain rfl | hc := List.mem_cons.1 hc
        · exact absurd hlt (lt_irrefl c)
        · exact absurd hlt (lt_asymm (hless c hc))
      · exact ⟨fun h => absurd (h a List.mem_cons_self (hless b hmem)) ha, fun _ => if_pos ⟨hmem, hkind⟩⟩

theorem BankIx.all_sorted : BankIx.all.Pairwise (· < ·) := by
  decide

/-! ## SOFT_RESET_PERFORMED -/

theorem exec_softResetPerformed {s : State} {kept : Option Frame} (stop : StopLevel) (hrun : s.inReset = false)
    (hdue : s.mgmt.softReset = .due kept) :
    exec (.softResetPerformed stop) s = .next (readStop stop (resetBlocks kept s)) := by
  dsimp only [exec, execSoftResetPerformed]
  rw [whenRunning_running _ hrun, hdue]

theorem resetBlocks_bank (kept : Option Frame) (s : State) (b : BankIx) :
    (resetBlocks kept s).bank b = resetBank (s.bank b) := by
  rw [← emptied_bank kept, resetBlocks_eq]
  simp

theorem resetBlocks_station (kept : Option Frame) (s : State) :
    (resetBlocks kept s).station = { s.station with
      mode := .standby, current := 0, closed := Vector.replicate 7 0, b := 0, band := 0
      airBanks := airBanksOf (offerReturn (emptied kept s))
      target := clamp s.station.entry.rotIdle s.station.entry.rotMin s.station.entry.rotMax
      holds := ⟨true, false, false, !(resetBlocks kept s).linked .d,
        decide (airBanksOf (offerReturn (emptied kept s)) ≠ 0), false⟩
      command := .hold } := by
  have hstation : (offerReturn (emptied kept s)).station = s.station := by simp [emptied]
  rw [resetBlocks_eq, resetStation_station, hstation, resetStation_linked]

theorem resetBlocks_airBanks (kept : Option Frame) (s : State) (b : BankIx) :
    (airBanksOf (offerReturn (emptied kept s))).getLsbD b.val = true ↔
      (s.bank b).desc.kind = .air ∧ 0 < (s.bank b).airLow ∧ (s.bank b).desc.airFeedHold = true := by
  rw [airBanksOf_get, (offerReturn_frame_at _).1, emptied_bank, ← holdsFeeder_iff]
  rfl

theorem resetBlocks_answers (kept : Option Frame) (s : State) {answers : List TxFrame}
    (h : answers = s.portU.queue.filter TxFrame.isResetAnswer ++ (kept.map TxFrame.resetAnswer).toList) :
    (((resetBlocks kept s).link .u).state = .linked → s.portU.tx = none →
        (resetBlocks kept s).portU.tx = answers.head? ∧ (resetBlocks kept s).portU.queue = answers.tail)
      ∧ (((resetBlocks kept s).link .u).state ≠ .linked ∨ s.portU.tx ≠ none →
        (resetBlocks kept s).portU.tx = s.portU.tx ∧ (resetBlocks kept s).portU.queue = answers) := by
  have hqueue : (emptied kept s).portU.queue = answers := by simp [emptied, resetPorts, keptAnswers, h]
  have htx : (emptied kept s).portU.tx = s.portU.tx := by simp [emptied, resetPorts]
  have hreset : (emptied kept s).mgmt.softReset.isDue = false := rfl
  have hlink : (resetBlocks kept s).link .u = (emptied kept s).link .u := by
    rw [resetBlocks_eq, resetStation_link, offerReturn_link]
  have hport : (resetBlocks kept s).portU = (offerReturn (emptied kept s)).portU := by rw [resetBlocks_eq]; simp
  rw [hlink, hport, ← hqueue, ← htx]
  exact offerReturn_answers hreset

theorem resetBlocks_linkCounters (kept : Option Frame) (s : State) :
    linkCounters (resetBlocks kept s) = List.replicate 15 0 := by
  have hu : (resetBlocks kept s).portU.link = ((endRun s).link .u).clearCounters := resetBlocks_link kept s .u
  have hd : (resetBlocks kept s).portD.link = ((endRun s).link .d).clearCounters := resetBlocks_link kept s .d
  unfold linkCounters
  rw [hu, hd, resetBlocks_eq]
  simp [resetStation, emptied, resetPorts, clearLink, Link.clearCounters, List.replicate]

/-- The emergency stop after a reset, while STOPn is asserted (R152). -/
theorem readStop_asserted (s : State) : readStop .asserted s = takeEmergencyStop { s with stopn := .asserted } := by
  simp [readStop]

theorem readStop_deasserted (s : State) : readStop .deasserted s = { s with stopn := .deasserted } := by
  simp [readStop]

theorem takeEmergencyStop_notFault {s : State} (h : s.mc.mode ≠ .fault) :
    takeEmergencyStop s = raise [.fault] (faultEntry .estop (allOff s)) :=
  if_neg h

theorem exec_emergencyStop {s : State} (hrun : s.inReset = false) :
    exec .emergencyStop s = .next (takeEmergencyStop { s with stopn := .asserted }) := by
  dsimp only [exec, execEmergencyStop]
  rw [whenRunning_running _ hrun]

theorem resetBlocks_actuator (kept : Option Frame) (s : State) :
    (resetBlocks kept s).station.holds.actuator = true ↔ ((resetBlocks kept s).link .d).state ≠ .linked := by
  rw [resetBlocks_station, State.linked, Bool.not_eq_true', decide_eq_false_iff_not]

theorem resetBlocks_air (kept : Option Frame) (s : State) :
    (resetBlocks kept s).station.holds.air = true ↔
      ∃ b, (s.bank b).desc.kind = .air ∧ 0 < (s.bank b).airLow ∧ (s.bank b).desc.airFeedHold = true := by
  rw [resetBlocks_station, decide_eq_true_eq, banks_ne_zero_iff]
  exact exists_congr (resetBlocks_airBanks kept s)

/-- The emergency stop taken by a part in STANDBY with every flag clear (R107, R148, R152). -/
theorem takeEmergencyStop_standby {s : State} (hmc : s.mc = ⟨.standby, .none, 0, none, none⟩) (hflags : s.mgmt.flags = 0) :
    (takeEmergencyStop s).mc = ⟨.fault, .estop, 0, none, none⟩
      ∧ (takeEmergencyStop s).mgmt.flags = BitVec.twoPow 15 14 ∧ (takeEmergencyStop s).track = []
      ∧ (∀ b, ((takeEmergencyStop s).bank b).mode = .fault ∧ ((takeEmergencyStop s).bank b).windows = []
          ∧ ((takeEmergencyStop s).bank b).composed = 0 ∧ ((takeEmergencyStop s).bankHanded b).modes = [])
      ∧ (takeEmergencyStop s).portD = (allOff s).portD := by
  rw [takeEmergencyStop_notFault (by rw [hmc]; decide)]
  refine ⟨by simp [hmc], ?_, by simp, fun b => ?_, by simp⟩
  · have hclear : (faultEntry .estop (allOff s)).mgmt.flags = 0 := by simpa using hflags
    rw [raise_one, raiseOne_flags, hclear]
    rfl
  · refine ⟨by simp, by simp [flushBank], ?_, by simp⟩
    rw [(raise_frame_at _ _).1, faultEntry_bank, takeMode_notFiring rfl]
    rfl

/-- The all-off frames, with no FIRE frame waiting: on the lane or in their banks' places (log 28). -/
theorem allOff_frames {s : State} {b : BankIx} (hkind : (s.bank b).desc.kind ≠ .disabled)
    (hlinked : (s.link .d).state = .linked) (hfire : s.portD.fire = Vector.replicate 4 none) :
    (s.portD.tx ≠ none → (allOff s).portD.fire[b] = some (offFrame s b))
      ∧ (s.portD.tx = none →
        ((∀ c : BankIx, c < b → (s.bank c).desc.kind = .disabled) →
            (allOff s).portD.tx = some (.own (offFrame s b)) ∧ (allOff s).portD.fire[b] = none)
          ∧ ((∃ c : BankIx, c < b ∧ (s.bank c).desc.kind ≠ .disabled) →
            (allOff s).portD.fire[b] = some (offFrame s b))) := by
  unfold allOff
  refine ⟨fun hbusy => ?_, fun hfree => ?_⟩
  · have hwaits := (allOff_busy (BankIx.all_sorted.imp fun h => ne_of_lt h) hlinked hbusy).2 b
    rw [if_pos ⟨BankIx.mem_all b, hkind⟩] at hwaits
    exact hwaits
  · obtain ⟨hfirst, hlater⟩ := allOff_free BankIx.all_sorted hlinked hfree (by rw [hfire]; simp) (BankIx.mem_all b) hkind
    refine ⟨fun h => hfirst fun c _ hc => h c hc, ?_⟩
    rintro ⟨c, hc, hcKind⟩
    exact hlater ⟨c, BankIx.mem_all c, hc, hcKind⟩

/-- Whether a reset leaves Port D's lane free: when it was free and the feeder held already. -/
theorem resetBlocks_lane (kept : Option Frame) {s : State} (hlinked : ((resetBlocks kept s).link .d).state = .linked) :
    (s.portD.tx ≠ none ∨ s.station.command = .release → (resetBlocks kept s).portD.tx ≠ none)
      ∧ (s.portD.tx = none → s.station.command = .hold → (resetBlocks kept s).portD.tx = none) := by
  obtain ⟨⟨hfree, hbusy, hhold⟩, -⟩ := resetBlocks_portD (kept := kept) (s := s) rfl
  refine ⟨fun h => ?_, fun htx hcommand => (hhold (.inl hcommand)).1.trans htx⟩
  by_cases htx : s.portD.tx = none
  · rw [(hfree (h.resolve_left (not_not.2 htx)) hlinked htx).1]
    simp
  · cases hcommand : s.station.command with
    | release => rwa [(hbusy hcommand hlinked htx).1]
    | hold => rwa [(hhold (.inl hcommand)).1]

/-- Settles O59: the acceptance, the blocks one by one, and the emergency stop with its all-off frames. -/
theorem softResetClearsAllButTheConfiguration : Obligations.SoftResetClearsAllButTheConfiguration := by
  refine ⟨fun s r rest f hs hd hf hqueue htx => ?_, fun s kept hrun hdue => ?_, fun s u kept hrun hdue hu => ?_,
    fun s kept hrun hdue => ?_⟩
  · rw [exec_softReset hs hd, acceptReset_first r hqueue htx]
    have hframe : answerFrame r .done = f := hf.symm
    rw [hframe]
    refine ⟨fun hroom => ?_, fun hfull => congrArg Host.Outcome.next (if_neg (Nat.not_lt.2 hfull))⟩
    rw [if_pos hroom]
    simp only [State.linked, decide_eq_true_eq]
  · rw [exec_softResetPerformed .deasserted hrun hdue, readStop_deasserted]
    refine ⟨_, rfl, ?_⟩
    have hmc : (resetBlocks kept s).mc = ⟨.standby, .none, 0, none, none⟩ := by simp [resetBlocks_eq, emptied]
    have hpos : (resetBlocks kept s).pos = { s.pos with illegal := 0 } := by simp [resetBlocks_eq, emptied]
    have hintake : (resetBlocks kept s).intake = ⟨[], 0, .zero⟩ := by simp [resetBlocks_eq, emptied]
    have hcls : (resetBlocks kept s).cls =
        { s.cls with tallies := Vector.replicate 2 (Vector.replicate 49 0) } := by simp [resetBlocks_eq, emptied]
    have htrack : (resetBlocks kept s).track = [] := by simp [resetBlocks_eq, emptied]
    have hhanded : (resetBlocks kept s).handed = resetHanded s.handed := by simp [resetBlocks_eq, emptied]
    have hproving : (resetBlocks kept s).proving = ⟨none, none⟩ := by simp [resetBlocks_eq, emptied, resetPorts]
    have hmgmt : (resetBlocks kept s).mgmt = ⟨[], 0, s.mgmt.mask, false, s.mgmt.line, .none⟩ := by
      simp [resetBlocks_eq, emptied]
    have hnode : (resetBlocks kept s).nodeAddr = s.nodeAddr := by simp
    have hbank := resetBlocks_bank kept s
    have hstation := resetBlocks_station kept s
    have hactuator := resetBlocks_actuator kept s
    have hair := resetBlocks_air kept s
    have hlink := resetBlocks_link kept s
    have hcounters := resetBlocks_linkCounters kept s
    have hanswers := fun answers h => resetBlocks_answers (answers := answers) kept s h
    have hhold := fun hold h => (resetBlocks_portD (kept := kept) (s := s) (hold := hold) h).1
    obtain ⟨hfire, hrelay⟩ := (resetBlocks_portD (kept := kept) (s := s) rfl).2
    generalize resetBlocks kept s = t at *
    refine ⟨hmc, rfl, hpos, hintake, hcls, htrack, fun b => ?_, hhanded, ?_⟩
    · have hb : t.bank b = resetBank (s.bank b) := hbank b
      exact ⟨congrArg (·.desc) hb, congrArg (·.mode) hb, congrArg (·.windows) hb, congrArg (·.lanes) hb,
        congrArg (·.composed) hb, congrArg (·.latched) hb, congrArg (·.airLow) hb, congrArg (·.inhibit) hb,
        congrArg (·.holdEnd) hb, (congrArg (·.airReport = true) hb).to_iff.trans (holdsFeeder_iff _),
        congrArg (·.counters) hb⟩
    · refine ⟨congrArg (·.mode) hstation, congrArg (·.portULinked) hstation,
        fun b => (congrArg (·.airBanks.getLsbD b.val = true) hstation).to_iff.trans (resetBlocks_airBanks kept s b),
        congrArg (·.current) hstation, congrArg (·.closed) hstation, congrArg (·.b) hstation, congrArg (·.band) hstation,
        congrArg (·.bands) hstation, congrArg (·.entry) hstation, congrArg (·.setpoint) hstation,
        congrArg (·.splitter) hstation, congrArg (·.target) hstation, congrArg (·.command) hstation,
        congrArg (·.holds.mode) hstation, congrArg (·.holds.occupancy) hstation, congrArg (·.holds.blind) hstation,
        congrArg (·.holds.operator) hstation, hactuator, hair, hfire, hrelay, hhold, hanswers, hcounters, hproving,
        fun p hp => ?_, fun run hr => ?_, hmgmt, hnode⟩
      · have hp' : t.link p = (s.link p).clearCounters := by rw [hlink, endRun_link_other hp]
        exact ⟨congrArg (·.state) hp', congrArg (·.locked) hp', congrArg (·.partnerReady) hp',
          congrArg (·.windowErrors) hp', congrArg (·.lossRun) hp', congrArg (·.warning) hp'⟩
      · exact (congrArg (·.state) (hlink run.port)).trans (endRun_link_state hr)
  · rw [exec_softResetPerformed _ hrun hdue, readStop_deasserted] at hu
    rw [exec_softResetPerformed _ hrun hdue, readStop_asserted]
    have hrun' : (resetBlocks kept s).inReset = false := by simpa using hrun
    generalize resetBlocks kept s = t at *
    cases hu
    rw [exec_emergencyStop (s := { t with stopn := .deasserted }) hrun']
  · rw [exec_softResetPerformed _ hrun hdue, readStop_asserted]
    refine ⟨_, rfl, ?_⟩
    have hmc : (resetBlocks kept s).mc = ⟨.standby, .none, 0, none, none⟩ := by simp [resetBlocks_eq, emptied]
    have hflags : (resetBlocks kept s).mgmt.flags = 0 := by simp [resetBlocks_eq, emptied]
    have hslot : (resetBlocks kept s).pos.slot = s.pos.slot := by simp [resetBlocks_eq, emptied]
    have hdesc : ∀ c, ((resetBlocks kept s).bank c).desc = (s.bank c).desc := fun c =>
      congrArg (·.desc) (resetBlocks_bank kept s c)
    have hlane := resetBlocks_lane kept (s := s)
    obtain ⟨hfire, -⟩ := (resetBlocks_portD (kept := kept) (s := s) rfl).2
    generalize resetBlocks kept s = t at *
    obtain ⟨h1, h2, h3, h4, hport⟩ := takeEmergencyStop_standby (s := { t with stopn := .asserted }) hmc hflags
    refine ⟨h1, h2, h3, h4, fun b off hkind hlinked hoff => ?_⟩
    have hlinked' : (t.link .d).state = .linked := by simpa [State.link] using hlinked
    have hoff' : off = offFrame { t with stopn := .asserted } b := by
      rw [hoff, offFrame_eq]
      exact hslot ▸ hdesc b ▸ rfl
    rw [← hdesc] at hkind
    obtain ⟨hbusy, hfree⟩ := allOff_frames (s := { t with stopn := .asserted }) hkind hlinked' hfire
    obtain ⟨hlaneBusy, hlaneFree⟩ := hlane hlinked'
    rw [hport, hoff']
    simp only [← hdesc]
    exact ⟨fun h => hbusy (hlaneBusy h), fun htx hcommand => hfree (hlaneFree htx hcommand)⟩

end Sys2Proof.Machine

/-! Classification: the five conditions of a match, and which rule wins (R42, R43). -/

namespace Sys2Proof.Machine

/-! ## A match -/

theorem Rule.matches_iff (r : Rule) (cls : BitVec 16) (area confidence centroid : Nat) :
    r.matches cls area confidence centroid = true ↔
      r.enabled = true ∧ cls &&& r.classMask = r.classValue ∧ (r.areaMin ≤ area ∧ area ≤ r.areaMax)
        ∧ r.confMin ≤ confidence ∧ (r.zoneLo ≤ centroid ∧ centroid ≤ r.zoneHi) := by
  simp only [Rule.matches, Bool.and_eq_true, decide_eq_true_eq, and_assoc]

/-! ## The first match of a list -/

/-- Where the list of a vector is cut at the place `i`. -/
theorem toList_eq_take_cons_drop {α : Type} {n : Nat} (v : Vector α n) (i : Fin n) :
    v.toList = v.toList.take i ++ v[i] :: v.toList.drop (i + 1) := by
  have hi : i.val < v.toList.length := by simp
  rw [Fin.getElem_fin, ← Vector.getElem_toList hi, List.getElem_cons_drop, List.take_append_drop]

theorem mem_take_toList {α : Type} {n : Nat} {v : Vector α n} {i : Fin n} {a : α} (h : a ∈ v.toList.take i) :
    ∃ j < i, a = v[j] := by
  obtain ⟨j, hj, rfl⟩ := List.mem_take_iff_getElem.1 h
  have hji : j < i.val := (Nat.lt_min.1 hj).1
  exact ⟨⟨j, hji.trans i.isLt⟩, hji, Vector.getElem_toList _⟩

section FirstMatch

variable {cls : BitVec 16} {area confidence centroid : Nat}

theorem firstMatch_none {rules : List Rule} (i : Nat)
    (h : ∀ r ∈ rules, r.matches cls area confidence centroid = false) :
    firstMatch cls area confidence centroid i rules = none := by
  induction rules generalizing i with
  | nil => rfl
  | cons r rules ih =>
    obtain ⟨hr, hrules⟩ := List.forall_mem_cons.1 h
    rw [firstMatch, hr]
    exact ih (i + 1) hrules

/-- The rules before the first match are passed over, one place each. -/
theorem firstMatch_append_cons {before : List Rule} {r : Rule} (after : List Rule) (i : Nat)
    (hbefore : ∀ q ∈ before, q.matches cls area confidence centroid = false)
    (hr : r.matches cls area confidence centroid = true) :
    firstMatch cls area confidence centroid i (before ++ r :: after) = some (i + before.length, r.result) := by
  induction before generalizing i with
  | nil => exact if_pos hr
  | cons q before ih =>
    obtain ⟨hq, hrest⟩ := List.forall_mem_cons.1 hbefore
    rw [List.cons_append, firstMatch, hq, List.length_cons, Nat.add_comm before.length, ← Nat.add_assoc]
    exact ih (i + 1) hrest

theorem winner_of_firstMatch {c : Classifier} {i : Fin 48} {result : RuleResult}
    (h : firstMatch cls area confidence centroid 0 c.sets[c.active].rules.toList = some (i.val, result)) :
    c.winner cls area confidence centroid = ⟨c.active, i.castSucc, result⟩ := by
  have hi : i.val < 49 := Nat.lt_succ_of_lt i.isLt
  rw [Classifier.winner, h]
  simp only [dif_pos hi]
  rfl

theorem winner_of_noMatch {c : Classifier}
    (h : firstMatch cls area confidence centroid 0 c.sets[c.active].rules.toList = none) :
    c.winner cls area confidence centroid = ⟨c.active, 48, c.sets[c.active].dflt⟩ := by
  rw [Classifier.winner, h]

end FirstMatch

/-- Settles O23: the conditions by `Rule.matches_iff`; the rules cut at the first match, or none of them matching. -/
theorem firstMatchingRuleWins : Obligations.FirstMatchingRuleWins := by
  refine ⟨Rule.matches_iff, fun c cls area confidence centroid i hbefore hi => ?_, fun c cls area confidence centroid h => ?_⟩
  · have hpass : ∀ q ∈ c.sets[c.active].rules.toList.take i, q.matches cls area confidence centroid = false := by
      intro q hq
      obtain ⟨j, hj, rfl⟩ := mem_take_toList hq
      exact hbefore j hj
    have hlength : 0 + (c.sets[c.active].rules.toList.take i).length = i.val := by simp
    refine winner_of_firstMatch ?_
    rw [toList_eq_take_cons_drop _ i, firstMatch_append_cons _ 0 hpass hi, hlength]
  · refine winner_of_noMatch (firstMatch_none 0 fun r hr => ?_)
    obtain ⟨j, hj, rfl⟩ := Vector.getElem_of_mem (Vector.mem_toList_iff.1 hr)
    exact h ⟨j, hj⟩

end Sys2Proof.Machine

/-! The table entries as they are written and read (R39, R54, R57, R61, R116, R119, R175, R194). -/

namespace Sys2Proof.Machine

/-! ## A number in its bytes -/

/-- One byte more, less significant than those before it. -/
theorem fld_succ {bs : List Byte} {off len : Nat} (h : off + len < bs.length) :
    fld bs off (len + 1) = fld bs off len * 256 + (bs.getD (off + len) 0).toNat := by
  have hlen : len < (bs.drop off).length := by rw [List.length_drop]; omega
  have hlast : (bs.drop off)[len] = bs.getD (off + len) 0 := by
    rw [List.getElem_drop, List.getD_eq_getElem _ _ h]
  simp only [fld, be, List.take_succ_eq_append_getElem hlen, List.foldl_append, List.foldl_cons, List.foldl_nil, hlast]

theorem be_lt (bs : List Byte) : be bs < 256 ^ bs.length := by
  induction bs using List.reverseRecOn with
  | nil => decide
  | append_singleton bs b ih =>
    have hbe : be (bs ++ [b]) = be bs * 256 + b.toNat := by
      simp only [be, List.foldl_append, List.foldl_cons, List.foldl_nil]
    rw [hbe, List.length_append, List.length_singleton, Nat.pow_succ]
    omega

theorem fld_lt (bs : List Byte) (off len : Nat) : fld bs off len < 256 ^ len :=
  (be_lt _).trans_le (Nat.pow_le_pow_right (by decide) (List.length_take_le _ _))

theorem toNat_append_byte {w : Nat} (x : BitVec w) (b : Byte) : (x ++ b).toNat = x.toNat * 256 + b.toNat := by
  rw [BitVec.toNat_append, ← Nat.shiftLeft_add_eq_or_of_lt b.isLt, Nat.shiftLeft_eq]

theorem fld_bigEndian (bs : List Byte) (i : Nat) :
    (i + 1 ≤ bs.length → fld bs i 1 = (bs.getD i 0).toNat)
      ∧ (i + 2 ≤ bs.length → fld bs i 2 = (bs.getD i 0 ++ bs.getD (i + 1) 0).toNat)
      ∧ (i + 3 ≤ bs.length → fld bs i 3 = (bs.getD i 0 ++ bs.getD (i + 1) 0 ++ bs.getD (i + 2) 0).toNat)
      ∧ (i + 4 ≤ bs.length →
        fld bs i 4 = (bs.getD i 0 ++ bs.getD (i + 1) 0 ++ bs.getD (i + 2) 0 ++ bs.getD (i + 3) 0).toNat) := by
  have one (h : i + 1 ≤ bs.length) : fld bs i 1 = (bs.getD i 0).toNat := fld_one bs i h
  have two (h : i + 2 ≤ bs.length) : fld bs i 2 = (bs.getD i 0 ++ bs.getD (i + 1) 0).toNat := by
    rw [fld_succ (len := 1) h, one (Nat.le_of_succ_le h), toNat_append_byte]
  have three (h : i + 3 ≤ bs.length) :
      fld bs i 3 = (bs.getD i 0 ++ bs.getD (i + 1) 0 ++ bs.getD (i + 2) 0).toNat := by
    rw [fld_succ (len := 2) h, two (Nat.le_of_succ_le h)]
    exact (toNat_append_byte _ _).symm
  refine ⟨one, two, three, fun h => ?_⟩
  rw [fld_succ (len := 3) h, three (Nat.le_of_succ_le h)]
  exact (toNat_append_byte _ _).symm

/-! ## A field read back from a layout -/

theorem be_u8 (n : Nat) : be (u8 n) = n % 256 := by
  simp only [be, u8, List.foldl, BitVec.toNat_ofNat]
  omega

theorem be_u24 (n : Nat) : be (u24 n) = n % 16777216 := by
  simp only [be, u24, u16, List.foldl, BitVec.toNat_ofNat]
  omega

section Fields

variable {n off len : Nat} {rest : List Byte}

theorem fld_u24_skip (h : 3 ≤ off) : fld (u24 n ++ rest) off len = fld rest (off - 3) len := fld_skip rfl h

theorem fld_u8_of_lt (h : n < 256) : fld (u8 n ++ rest) 0 1 = n := (be_u8 n).trans (Nat.mod_eq_of_lt h)
theorem fld_u16_of_lt (h : n < 65536) : fld (u16 n ++ rest) 0 2 = n := (be_u16 n).trans (Nat.mod_eq_of_lt h)
theorem fld_u24_of_lt (h : n < 16777216) : fld (u24 n ++ rest) 0 3 = n := (be_u24 n).trans (Nat.mod_eq_of_lt h)
theorem fld_u32_of_lt (h : n < 4294967296) : fld (u32 n ++ rest) 0 4 = n := (be_u32 n).trans (Nat.mod_eq_of_lt h)

/-- The last field of a layout. -/
theorem fld_u8_last (h : n < 256) : fld (u8 n) 0 1 = n := fld_u8_of_lt (rest := []) h
theorem fld_u16_last (h : n < 65536) : fld (u16 n) 0 2 = n := fld_u16_of_lt (rest := []) h
theorem fld_u24_last (h : n < 16777216) : fld (u24 n) 0 3 = n := fld_u24_of_lt (rest := []) h

end Fields

theorem fld_yesNo (b : Bool) (rest : List Byte) : fld (yesNo b ++ rest) 0 1 = if b then 1 else 0 := by
  cases b <;> rfl

theorem fld_yesNo_skip {b : Bool} {rest : List Byte} {off len : Nat} (h : 1 ≤ off) :
    fld (yesNo b ++ rest) off len = fld rest (off - 1) len := fld_skip rfl h

/-! ## LINE, STATION and BAND -/

theorem LineEntry.inRange_iff (e : LineEntry) : e.inRange = true ↔
    (100 ≤ e.slotUs ∧ e.slotUs ≤ 2000) ∧ (16 ≤ e.maxItemLen ∧ e.maxItemLen ≤ 65535) ∧ e.skewLimit ≤ 4095
      ∧ e.staleLimit ≤ 1048575 ∧ e.stallW ≤ 1023 ∧ e.reverseLimit ≤ 65535
      ∧ (1 ≤ e.encFaultLimit ∧ e.encFaultLimit ≤ 255) ∧ (1 ≤ e.occHigh ∧ e.occHigh ≤ 1024) ∧ e.occLow < e.occHigh
      ∧ (1 ≤ e.drainLimit ∧ e.drainLimit ≤ 16777215) ∧ (256 ≤ e.segLen ∧ e.segLen ≤ 65535)
      ∧ (1 ≤ e.linkWarnOn ∧ e.linkWarnOn ≤ 65535) ∧ e.linkWarnOff < e.linkWarnOn
      ∧ 1 ≤ e.linkLoss ∧ e.linkLoss ≤ 65535 := by
  simp only [LineEntry.inRange, Bool.and_eq_true, decide_eq_true_eq, and_assoc]

theorem LineEntry.ofBytes_bytes {e : LineEntry} (h : e.inRange = true) : LineEntry.ofBytes e.bytes = e := by
  obtain ⟨hslot, hitem, hskew, hstale, hstall, hreverse, henc, hhigh, hlow, hdrain, hseg, hon, hoff, hloss⟩ :=
    (LineEntry.inRange_iff e).1 h
  simp (disch := omega) only [LineEntry.ofBytes, LineEntry.bytes, List.append_assoc, fld_u8_skip, fld_u16_skip,
    fld_u24_skip, fld_u8_of_lt, fld_u16_of_lt, fld_u24_of_lt, fld_u16_last, Nat.reduceSub]

theorem StationEntry.inRange_iff (e : StationEntry) : e.inRange = true ↔
    (∀ n ∈ [e.rotorNode, e.splitterNode, e.feederNode], 16 ≤ n ∧ n ≤ 62) ∧ e.rotMin ≤ e.rotMax ∧ e.rotMax ≤ 1500
      ∧ e.rotIdle ≤ 1500 ∧ (1 ≤ e.slew ∧ e.slew ≤ 500) ∧ e.h ≤ 16777215 := by
  simp only [StationEntry.inRange, nodeOk, Bool.and_eq_true, decide_eq_true_eq, and_assoc, List.forall_mem_cons,
    List.not_mem_nil, false_implies, implies_true, true_and]

theorem StationEntry.ofBytes_bytes {e : StationEntry} (h : e.inRange = true) : StationEntry.ofBytes e.bytes = e := by
  obtain ⟨hnodes, hmin, hmax, hidle, hslew, hh⟩ := (StationEntry.inRange_iff e).1 h
  obtain ⟨hrotor, hsplitter, hfeeder⟩ : e.rotorNode ≤ 62 ∧ e.splitterNode ≤ 62 ∧ e.feederNode ≤ 62 :=
    ⟨(hnodes _ (by simp)).2, (hnodes _ (by simp)).2, (hnodes _ (by simp)).2⟩
  simp (disch := omega) only [StationEntry.ofBytes, StationEntry.bytes, List.append_assoc, fld_u8_skip, fld_u16_skip,
    fld_u8_of_lt, fld_u16_of_lt, fld_u24_last, Nat.reduceSub]

theorem BandEntry.inRange_iff (e : BandEntry) : e.inRange = true ↔ e.t ≤ 134217720 ∧ e.f ≤ 1500 ∧ e.split ≤ 1000 := by
  simp only [BandEntry.inRange, Bool.and_eq_true, decide_eq_true_eq, and_assoc]

theorem BandEntry.ofBytes_bytes {e : BandEntry} (h : e.inRange = true) : BandEntry.ofBytes e.bytes = e := by
  obtain ⟨ht, hf, hsplit⟩ := (BandEntry.inRange_iff e).1 h
  simp (disch := omega) only [BandEntry.ofBytes, BandEntry.bytes, List.append_assoc, fld_u16_skip, fld_u32_skip,
    fld_u16_of_lt, fld_u32_of_lt, fld_u16_last, Nat.reduceSub]

/-! ## The codes of the choices -/

theorem BankKind.ofCode_eq_some {n : Nat} {k : BankKind} : BankKind.ofCode n = some k ↔ n = k.code :=
  ⟨bankKind_ofCode, fun h => by subst h; cases k <;> rfl⟩

theorem LongPolicy.ofCode_eq_some {n : Nat} {p : LongPolicy} : LongPolicy.ofCode n = some p ↔ n = p.code := by
  constructor
  · intro h
    unfold LongPolicy.ofCode at h
    split at h <;> cases h <;> rfl
  · rintro rfl
    cases p <;> rfl

theorem ConflictRule.ofCode_eq_some {n : Nat} {c : ConflictRule} : ConflictRule.ofCode n = some c ↔ n = c.code := by
  constructor
  · intro h
    unfold ConflictRule.ofCode at h
    split at h <;> cases h <;> rfl
  · rintro rfl
    cases c <;> rfl

theorem Action.ofCode_eq_some {n : Nat} {a : Action} : Action.ofCode n = some a ↔ n = a.code := by
  constructor
  · intro h
    unfold Action.ofCode at h
    split at h <;> cases h <;> rfl
  · rintro rfl
    cases a <;> rfl

theorem boolOfCode_eq_some {n : Nat} {b : Bool} : boolOfCode n = some b ↔ n = if b then 1 else 0 := by
  constructor
  · intro h
    unfold boolOfCode at h
    split at h <;> cases h <;> rfl
  · rintro rfl
    cases b <;> rfl

theorem BankKind.code_lt (k : BankKind) : k.code < 256 := by cases k <;> decide
theorem LongPolicy.code_lt (p : LongPolicy) : p.code < 256 := by cases p <;> decide
theorem ConflictRule.code_lt (c : ConflictRule) : c.code < 256 := by cases c <;> decide
theorem Action.code_lt (a : Action) : a.code < 256 := by cases a <;> decide

/-! ## BANK -/

theorem BankEntry.ofBytes_eq_some {bs : List Byte} {e : BankEntry} : BankEntry.ofBytes bs = some e ↔
    fld bs 0 1 = e.kind.code ∧ e.node = fld bs 1 1 ∧ e.lanes = fld bs 2 1 ∧ e.laneBase = fld bs 3 1
      ∧ e.sensorsPerLane = fld bs 4 1 ∧ e.spread = fld bs 5 1 ∧ e.reach = fld bs 6 3 ∧ e.leadUs = fld bs 9 2
      ∧ e.pre = fld bs 11 2 ∧ e.post = fld bs 13 2 ∧ e.minSlots = fld bs 15 1 ∧ e.maxSlots = fld bs 16 1
      ∧ e.recoverySlots = fld bs 17 1 ∧ fld bs 18 1 = e.longPolicy.code ∧ fld bs 19 1 = e.conflict.code
      ∧ e.budget = fld bs 20 1 ∧ e.reserveBudget = fld bs 21 1 ∧ e.reservePriority = fld bs 22 1
      ∧ fld bs 23 1 = (if e.airFeedHold then 1 else 0) ∧ e.heatOn = fld bs 24 2 ∧ e.cool = fld bs 26 2
      ∧ e.heatTrip = fld bs 28 2 ∧ e.heatResume = fld bs 30 2 := by
  simp only [BankEntry.ofBytes, Option.bind_eq_bind, Option.bind_eq_some_iff, Option.pure_def, Option.some.injEq,
    BankKind.ofCode_eq_some, LongPolicy.ofCode_eq_some, ConflictRule.ofCode_eq_some, boolOfCode_eq_some]
  constructor
  · rintro ⟨kind, hkind, long, hlong, conflict, hconflict, air, hair, rfl⟩
    exact ⟨hkind, rfl, rfl, rfl, rfl, rfl, rfl, rfl, rfl, rfl, rfl, rfl, rfl, hlong, hconflict, rfl, rfl, rfl, hair, rfl,
      rfl, rfl, rfl⟩
  · obtain ⟨kind, node, lanes, laneBase, sensorsPerLane, spread, reach, leadUs, pre, post, minSlots, maxSlots,
      recoverySlots, long, conflict, budget, reserveBudget, reservePriority, air, heatOn, cool, heatTrip, heatResume⟩ := e
    rintro ⟨hkind, rfl, rfl, rfl, rfl, rfl, rfl, rfl, rfl, rfl, rfl, rfl, rfl, hlong, hconflict, rfl, rfl, rfl, hair, rfl,
      rfl, rfl, rfl⟩
    exact ⟨kind, hkind, long, hlong, conflict, hconflict, air, hair, rfl⟩

theorem BankEntry.inRange_iff (e : BankEntry) : e.inRange = true ↔
    (16 ≤ e.node ∧ e.node ≤ 62) ∧ (1 ≤ e.lanes ∧ e.lanes ≤ 128) ∧ e.laneBase ≤ 191
      ∧ (1 ≤ e.sensorsPerLane ∧ e.sensorsPerLane ≤ 8) ∧ e.spread ≤ 3 ∧ e.reach ≤ 1048575 ∧ e.leadUs ≤ 20000
      ∧ e.pre ≤ 1023 ∧ e.post ≤ 1023 ∧ (1 ≤ e.minSlots ∧ e.minSlots ≤ 16)
      ∧ (e.minSlots ≤ e.maxSlots ∧ e.maxSlots ≤ 255) ∧ e.recoverySlots ≤ 255
      ∧ (1 ≤ e.budget ∧ e.budget ≤ e.lanes) ∧ e.reserveBudget ≤ e.budget ∧ e.reservePriority ≤ 7
      ∧ e.heatOn ≤ 4095 ∧ e.cool ≤ 4095 ∧ (1 ≤ e.heatTrip ∧ e.heatTrip ≤ 65535) ∧ e.heatResume < e.heatTrip := by
  simp only [BankEntry.inRange, nodeOk, Bool.and_eq_true, decide_eq_true_eq, and_assoc]

theorem BankEntry.ofBytes_bytes {e : BankEntry} (h : e.inRange = true) : BankEntry.ofBytes e.bytes = some e := by
  obtain ⟨hnode, hlanes, hbase, hsensors, hspread, hreach, hlead, hpre, hpost, hmin, hmax, hrecovery, hbudget, hreserve,
    hpriority, hon, hcool, htrip, hresume⟩ := (BankEntry.inRange_iff e).1 h
  have hkind := e.kind.code_lt
  have hlong := e.longPolicy.code_lt
  have hconflict := e.conflict.code_lt
  rw [BankEntry.ofBytes_eq_some]
  simp (disch := omega) only [BankEntry.bytes, List.flatten_cons, List.flatten_nil, fld_u8_skip, fld_u16_skip,
    fld_u24_skip, fld_yesNo_skip, fld_u8_of_lt, fld_u16_of_lt, fld_u24_of_lt, fld_yesNo, Nat.reduceSub, and_self]

/-! ## RECIPE -/

theorem RuleResult.ofBytes_eq_some {bs : List Byte} {e : RuleResult} : RuleResult.ofBytes bs = some e ↔
    (∀ b : Fin 4, fld bs (12 + b.val) 1 = e.actions[b].code) ∧ e.priority = fld bs 16 1
      ∧ e.burdenWeight = fld bs 17 1 := by
  simp only [RuleResult.ofBytes, Option.bind_eq_bind, Option.bind_eq_some_iff, Option.pure_def, Option.some.injEq,
    Action.ofCode_eq_some]
  constructor
  · rintro ⟨a0, h0, a1, h1, a2, h2, a3, h3, rfl⟩
    exact ⟨Fin.forall_fin_succ.2 ⟨h0, Fin.forall_fin_succ.2 ⟨h1, Fin.forall_fin_two.2 ⟨h2, h3⟩⟩⟩, rfl, rfl⟩
  · obtain ⟨actions, priority, burdenWeight⟩ := e
    rintro ⟨hactions, rfl, rfl⟩
    refine ⟨_, hactions 0, _, hactions 1, _, hactions 2, _, hactions 3, ?_⟩
    congr 1
    ext i hi
    interval_cases i <;> rfl

theorem RuleResult.inRange_iff (e : RuleResult) : e.inRange = true ↔ e.priority ≤ 7 ∧ e.burdenWeight ≤ 15 := by
  simp only [RuleResult.inRange, Bool.and_eq_true, decide_eq_true_eq]

theorem RuleResult.fld_action (e : RuleResult) (b : Fin 4) : fld e.bytes b.val 1 = e.actions[b].code := by
  have hbyte : e.bytes.getD b.val 0 = BitVec.ofNat 8 e.actions[b].code := by
    fin_cases b <;> rfl
  have hlength : b.val < e.bytes.length := Nat.lt_trans b.isLt (show 4 < 6 by decide)
  rw [fld_one _ _ hlength, hbyte, byte_toNat e.actions[b].code_lt]

/-- Actions, priority and burden_weight stand after the 12 bytes of a rule's own fields. -/
theorem RuleResult.ofBytes_append_bytes {e : RuleResult} {own : List Byte} (hown : own.length = 12)
    (h : e.inRange = true) : RuleResult.ofBytes (own ++ e.bytes) = some e := by
  obtain ⟨hpriority, hweight⟩ := (RuleResult.inRange_iff e).1 h
  have hskip (off len : Nat) (hoff : 12 ≤ off) : fld (own ++ e.bytes) off len = fld e.bytes (off - 12) len :=
    fld_skip hown hoff
  refine RuleResult.ofBytes_eq_some.2 ⟨fun b => ?_, ?_, ?_⟩
  · rw [hskip _ _ (Nat.le_add_right 12 b), Nat.add_sub_cancel_left, e.fld_action b]
  · rw [hskip 16 1 (by decide)]
    simp (disch := omega) only [RuleResult.bytes, List.append_assoc, fld_u8_skip, fld_u8_of_lt, Nat.reduceSub]
  · rw [hskip 17 1 (by decide)]
    simp (disch := omega) only [RuleResult.bytes, List.append_assoc, fld_u8_skip, fld_u8_last, Nat.reduceSub]

theorem Rule.ofBytes_eq_some {bs : List Byte} {e : Rule} : Rule.ofBytes bs = some e ↔
    fld bs 0 1 = (if e.enabled then 1 else 0) ∧ e.classMask.toNat = fld bs 1 2 ∧ e.classValue.toNat = fld bs 3 2
      ∧ e.areaMin = fld bs 5 2 ∧ e.areaMax = fld bs 7 2 ∧ e.confMin = fld bs 9 1 ∧ e.zoneLo = fld bs 10 1
      ∧ e.zoneHi = fld bs 11 1 ∧ RuleResult.ofBytes bs = some e.result := by
  have hword (off : Nat) (v : BitVec 16) : v.toNat = fld bs off 2 ↔ v = BitVec.ofNat 16 (fld bs off 2) := by
    have hlt : fld bs off 2 < 2 ^ 16 := fld_lt bs off 2
    rw [← BitVec.toNat_inj, BitVec.toNat_ofNat, Nat.mod_eq_of_lt hlt]
  simp only [Rule.ofBytes, Option.bind_eq_bind, Option.bind_eq_some_iff, Option.pure_def, Option.some.injEq,
    boolOfCode_eq_some, hword]
  constructor
  · rintro ⟨enabled, henabled, result, hresult, rfl⟩
    exact ⟨henabled, rfl, rfl, rfl, rfl, rfl, rfl, rfl, hresult⟩
  · obtain ⟨enabled, classMask, classValue, areaMin, areaMax, confMin, zoneLo, zoneHi, result⟩ := e
    rintro ⟨henabled, rfl, rfl, rfl, rfl, rfl, rfl, rfl, hresult⟩
    exact ⟨enabled, henabled, result, hresult, rfl⟩

theorem Rule.inRange_iff (e : Rule) : e.inRange = true ↔
    e.areaMin ≤ e.areaMax ∧ e.areaMax ≤ 65535 ∧ e.confMin ≤ 255 ∧ e.zoneLo ≤ e.zoneHi ∧ e.zoneHi ≤ 191
      ∧ e.result.inRange = true := by
  simp only [Rule.inRange, Bool.and_eq_true, decide_eq_true_eq, and_assoc]

theorem RuleResult.ofBytes_bytes_rule {e : Rule} (h : e.result.inRange = true) :
    RuleResult.ofBytes e.bytes = some e.result :=
  RuleResult.ofBytes_append_bytes (by simp [yesNo, u8, u16]) h

theorem Rule.ofBytes_bytes {e : Rule} (h : e.inRange = true) : Rule.ofBytes e.bytes = some e := by
  obtain ⟨hmin, hmax, hconf, hlo, hhi, hresult⟩ := (Rule.inRange_iff e).1 h
  rw [Rule.ofBytes_eq_some, RuleResult.ofBytes_bytes_rule hresult]
  simp (disch := omega) only [Rule.bytes, List.append_assoc, fld_u8_skip, fld_u16_skip, fld_yesNo_skip, fld_u8_of_lt,
    fld_u16_of_lt, fld_yesNo, Nat.reduceSub, and_self]

/-- Settles O57: the numbers by `fld_bigEndian`, and for each entry how it is read, its ranges, and that it reads back. -/
theorem entriesReadBackAsWritten : Obligations.EntriesReadBackAsWritten := by
  refine ⟨fld_bigEndian, fun _ => rfl, fun _ => rfl, fun _ => rfl, fun _ _ => BankEntry.ofBytes_eq_some,
    fun _ _ => RuleResult.ofBytes_eq_some, fun _ _ => Rule.ofBytes_eq_some,
    fun e => ⟨e.inRange_iff, fun h => ⟨LineEntry.ofBytes_bytes h, rfl⟩⟩,
    fun e => ⟨e.inRange_iff, fun h => ⟨StationEntry.ofBytes_bytes h, rfl⟩⟩,
    fun e => ⟨e.inRange_iff, fun h => ⟨BandEntry.ofBytes_bytes h, rfl⟩⟩,
    fun e => ⟨e.inRange_iff, fun h => ⟨BankEntry.ofBytes_bytes h, rfl⟩⟩,
    fun e => ⟨e.inRange_iff, fun h => ⟨Rule.ofBytes_bytes h, rfl⟩⟩,
    fun e => ⟨e.inRange_iff, fun h => RuleResult.ofBytes_bytes_rule (e := e.asRule) h⟩⟩

end Sys2Proof.Machine

/-! The Window Planner's lane map, lead and positions (R66 to R69). -/

namespace Sys2Proof.Machine

/-! ## The lane map -/

/-- The actuator lane of a sensor lane inside the bank's stretch or above it (R66). -/
theorem actLane_of_le {d : BankEntry} {lane : Nat} (h : d.laneBase ≤ lane) :
    actLane d lane = ((lane - d.laneBase) / d.sensorsPerLane : Nat) := by
  unfold actLane
  rw [← Int.natCast_sub h, Int.fdiv_eq_ediv_of_nonneg _ (Int.natCast_nonneg _), Int.natCast_ediv]

/-- A sensor lane below the bank's stretch has a negative actuator lane (R66). -/
theorem actLane_neg_of_lt {d : BankEntry} {lane : Nat} (hsensors : 1 ≤ d.sensorsPerLane) (h : lane < d.laneBase) :
    actLane d lane < 0 :=
  Int.fdiv_neg_of_neg_of_pos (by omega) (by omega)

theorem uncovered_iff {d : BankEntry} (laneLo laneHi : Nat) (hsensors : 1 ≤ d.sensorsPerLane) (hlanes : 1 ≤ d.lanes) :
    uncovered d laneLo laneHi = true ↔
      laneHi < d.laneBase ∨ (d.laneBase ≤ laneLo ∧ d.lanes ≤ (laneLo - d.laneBase) / d.sensorsPerLane) := by
  simp only [uncovered, Bool.or_eq_true, decide_eq_true_eq]
  refine or_congr_right ?_
  obtain hbelow | hinside := Nat.lt_or_ge laneLo d.laneBase
  · have hneg := actLane_neg_of_lt hsensors hbelow
    omega
  · rw [actLane_of_le hinside]
    omega

/-- The low end of a lane range lies in the bank as soon as the piece does not begin above it (R67). -/
theorem actLo_eq {d : BankEntry} {laneLo : Nat}
    (hfits : (max laneLo d.laneBase - d.laneBase) / d.sensorsPerLane < d.lanes) :
    actLo d laneLo = (max laneLo d.laneBase - d.laneBase) / d.sensorsPerLane - d.spread := by
  rw [actLo, actLane_of_le (Nat.le_max_right _ _), clampLane]
  omega

theorem actHi_eq {d : BankEntry} {laneHi : Nat} (hlanes : 1 ≤ d.lanes) (hreaches : d.laneBase ≤ laneHi) :
    actHi d laneHi = min ((laneHi - d.laneBase) / d.sensorsPerLane + d.spread) (d.lanes - 1) := by
  rw [actHi, actLane_of_le hreaches, clampLane]
  generalize (laneHi - d.laneBase) / d.sensorsPerLane = lane
  omega

/-- Settles O26: a covered piece reaches the stretch and begins inside the bank, where the clamps of R67 leave the range. -/
theorem laneMapOfAPiece : Obligations.LaneMapOfAPiece := by
  intro d laneLo laneHi hsensors hlanes hordered
  have hiff := uncovered_iff laneLo laneHi hsensors hlanes
  refine ⟨hiff, fun hcovered => ?_⟩
  rw [hcovered] at hiff
  obtain ⟨hreaches, hbegins⟩ := not_or.1 (hiff.not.1 Bool.false_ne_true)
  have hfits : (max laneLo d.laneBase - d.laneBase) / d.sensorsPerLane < d.lanes := by
    obtain hbelow | hinside := Nat.lt_or_ge laneLo d.laneBase
    · rw [Nat.max_eq_right hbelow.le, Nat.sub_self, Nat.zero_div]
      exact hlanes
    · rw [Nat.max_eq_left hinside]
      omega
  have hmono : (max laneLo d.laneBase - d.laneBase) / d.sensorsPerLane ≤ (laneHi - d.laneBase) / d.sensorsPerLane :=
    Nat.div_le_div_right (by omega)
  rw [actLo_eq hfits, actHi_eq hlanes (Nat.not_lt.1 hreaches)]
  exact ⟨rfl, rfl,
    le_min ((Nat.sub_le _ _).trans (hmono.trans (Nat.le_add_right _ _))) ((Nat.sub_le _ _).trans (Nat.le_pred_of_lt hfits)),
    Nat.min_le_right _ _⟩

/-! ## The lead and the positions of a window -/

/-- The largest lead: lead_us at its 20,000 and W at its 65,535 (R68). -/
theorem lead_product_le {d : BankEntry} {w : Nat} (hlead : d.leadUs ≤ 20000) (hspeed : w ≤ 65535) :
    d.leadUs * w ≤ 1310700000 :=
  Nat.mul_le_mul hlead hspeed

/-- The length of a window is that of its piece and the two margins; lead and reach cancel (R69). -/
theorem closePosition_sub_openPosition (d : BankEntry) (w : Nat) (lead trail : Pos) :
    closePosition d w trail - openPosition d w lead = trail - lead + BitVec.ofNat 32 (d.pre + d.post) := by
  rw [closePosition, openPosition, BitVec.ofNat_add]
  ring

/-- A difference that is not negative grows by what is added to its first position, short of 2^31 (R14). -/
theorem toInt_add_ofNat {x : BitVec 32} {n : Nat} (hnonneg : 0 ≤ x.toInt) (hsmall : x.toInt + n < 2 ^ 31) :
    (x + BitVec.ofNat 32 n).toInt = x.toInt + n := by
  rw [BitVec.toInt_add, BitVec.toInt_ofNat', Int.add_bmod_bmod]
  exact Int.bmod_eq_of_le (by omega) (by omega)

theorem sdiff_closePosition_openPosition {d : BankEntry} (w : Nat) {lead trail : Pos} (hpre : d.pre ≤ 1023)
    (hpost : d.post ≤ 1023) (hnonneg : 0 ≤ sdiff trail lead) (hlength : sdiff trail lead ≤ 65535) :
    sdiff (closePosition d w trail) (openPosition d w lead) = sdiff trail lead + d.pre + d.post := by
  unfold sdiff at hnonneg hlength ⊢
  rw [closePosition_sub_openPosition, toInt_add_ofNat hnonneg (by omega), Int.natCast_add, Int.add_assoc]

/-- Settles O27: the bound of the lead by `lead_product_le`, the length by `sdiff_closePosition_openPosition`. -/
theorem leadAndWindowPositions : Obligations.LeadAndWindowPositions := by
  refine ⟨fun d w => ⟨rfl, fun hlead hspeed => ?_, ?_, fun hzero => ?_⟩,
    fun d w lead trail => ⟨rfl, rfl, fun hpre hpost hnonneg hlength => ?_⟩⟩
  · have hproduct := lead_product_le hlead hspeed
    unfold leadCounts
    omega
  · simp [leadCounts]
  · simp [leadCounts, hzero]
  · rw [sdiff_closePosition_openPosition w hpre hpost hnonneg hlength]
    omega

end Sys2Proof.Machine

/-! A boundary at a bank in use: the windows that stay on its list (R76, R82, R87, R93, R96, R97). -/

namespace Sys2Proof.Machine

/-! ## The boundary that a bank in use takes -/

/-- The bank as it composes at a boundary: its image latched and its closed windows gone (R82, steps 1 to 3). -/
def State.composing (s : State) (b : BankIx) : BankUnit :=
  retireClosed s.atBoundary.p { s.bank b with latched := (s.bank b).composed }

theorem State.composing_desc (s : State) (b : BankIx) : (s.composing b).desc = (s.bank b).desc := rfl

theorem bankBoundary_inUse {s : State} {b : BankIx} {n : BitVec 8} {rest : List (BitVec 8)}
    (hk : (s.bank b).desc.kind ≠ .disabled) (hn : (s.bankHanded b).boundaries = n :: rest) :
    bankBoundary b s = boundaryInUse b n (s.setBankHanded b { s.bankHanded b with boundaries := rest }) := by
  unfold bankBoundary
  rw [hn]
  exact if_neg hk

/-- The bank after a boundary: composed from `State.composing`, its hold counted (R82). -/
theorem bankBoundary_inUse_bank {s : State} {b : BankIx} {n : BitVec 8} {rest : List (BitVec 8)}
    (hk : (s.bank b).desc.kind ≠ .disabled) (hn : (s.bankHanded b).boundaries = n :: rest) :
    (bankBoundary b s).bank b = countHold (compose s.atBoundary (s.composing b)) := by
  rw [bankBoundary_inUse hk hn, boundaryInUse_bank, State.bank_setBankHanded]
  rfl

/-! ## A window over an image -/

theorem Window.demands_iff (k : Conditions) (w : Window) : w.demands k = true ↔
    (sdiff w.openPos k.p < (max k.c 1 : Nat) ∨ w.trimmed = true) ∧ 0 < sdiff w.closePos k.p := by
  simp only [Window.demands, Bool.and_eq_true, Bool.or_eq_true, decide_eq_true_eq]

theorem Window.asks_iff (w : Window) (lane : Nat) : w.asks lane = true ↔
    w.lo ≤ lane ∧ lane ≤ w.hi ∧ w.truncated.getLsbD lane = false := by
  simp only [Window.asks, Window.covers, Bool.and_eq_true, decide_eq_true_eq, Bool.not_eq_true', and_assoc]

theorem Window.not_closed_eq (p : Pos) (w : Window) : (!w.closed p) = decide (0 < sdiff w.closePos p) := by
  simp only [Window.closed, ← decide_not, Int.not_le]

/-- The windows that stay at a boundary: those whose close position is ahead of P (R84). -/
theorem State.composing_windows (s : State) (b : BankIx) :
    (s.composing b).windows = (s.bank b).windows.filter fun w => decide (0 < sdiff w.closePos s.atBoundary.p) := by
  simp only [State.composing, retireClosed, Window.not_closed_eq]

theorem anyOn_iff (image : Image) (lo hi : Nat) : anyOn image lo hi = true ↔
    ∃ i : Fin 128, lo ≤ i.val ∧ i.val ≤ hi ∧ image.getLsbD i.val = true := by
  simp only [anyOn, List.any_eq_true, List.mem_range, Nat.lt_succ_iff, Bool.and_eq_true, decide_eq_true_eq]
  constructor
  · rintro ⟨i, hhi, hlo, hon⟩
    exact ⟨⟨i, BitVec.lt_of_getLsbD hon⟩, hlo, hhi, hon⟩
  · rintro ⟨i, hlo, hhi, hon⟩
    exact ⟨i, hhi, hlo, hon⟩

/-- Every lane of a range that ends inside the image is ON (R97). -/
theorem allOn_iff (image : Image) (lo : Nat) {hi : Nat} (hinside : hi < 128) : allOn image lo hi = true ↔
    ∀ i : Fin 128, lo ≤ i.val → i.val ≤ hi → image.getLsbD i.val = true := by
  simp only [allOn, List.all_eq_true, List.mem_range, Nat.lt_succ_iff, Bool.or_eq_true, decide_eq_true_eq]
  constructor
  · exact fun h i hlo hhi => (h i hhi).resolve_left (Nat.not_lt.2 hlo)
  · exact fun h i hhi => (Nat.lt_or_ge i lo).imp_right fun hlo => h ⟨i, by omega⟩ hlo hhi

/-! ## The candidates that conflicts drop -/

theorem mem_candidates_iff (k : Conditions) (u : BankUnit) (c : Candidate) :
    c ∈ candidates k u ↔ ∃ i < u.desc.lanes, candidate? k u i = some c := by
  simp only [candidates, List.mem_filterMap, List.mem_range]

/-- When a lane is a candidate before conflicts, and with which values (R92). -/
theorem candidate?_eq_some_iff (k : Conditions) (u : BankUnit) (i : Fin 128) (c : Candidate) :
    candidate? k u i = some c ↔
      (¬ LaneBlocked k u u.lanes[i] ∧ u.lanes[i].holdLeft = 0 ∧ k.stalled = false ∧ ∃ e ∈ u.windows, e.Asks k i)
        ∧ ⟨i, u.wasOn i, topPriority (u.windows.filter (ejectAsks k i)), u.windows.findIdx (ejectAsks k i)⟩ = c := by
  have hblocked : blocked k u i = true ↔ LaneBlocked k u u.lanes[i] := by rw [blocked_iff, lane_get, LaneBlocked]
  have hasked : u.windows.any (ejectAsks k i) = true ↔ ∃ e ∈ u.windows, e.Asks k i := by
    simp only [List.any_eq_true, ejectAsks_iff]
  simp only [candidate?, holdLane, lane_get, Option.ite_none_left_eq_some, Option.some.injEq, ← hblocked, ← hasked]
  refine and_congr_left' ?_
  cases blocked k u i <;> simp [and_assoc]

/-- The highest priority of some windows does not pass that of others exactly when one of those others has no lower priority
than each of them. -/
theorem topPriority_le_topPriority_iff {ws gs : List Window} (hg : gs ≠ []) :
    topPriority ws ≤ topPriority gs ↔ ∃ g ∈ gs, ∀ w ∈ ws, w.priority ≤ g.priority := by
  have hle (w : Window) (hw : w ∈ ws) : w.priority ≤ topPriority ws := (le_topPriority _ _).2 (.inr ⟨w, hw, le_rfl⟩)
  rw [le_topPriority gs]
  constructor
  · rintro (hzero | ⟨g, hmem, htop⟩)
    · obtain ⟨g, hmem⟩ := List.exists_mem_of_ne_nil gs hg
      exact ⟨g, hmem, fun w hw => by have := hle w hw; omega⟩
    · exact ⟨g, hmem, fun w hw => (hle w hw).trans htop⟩
  · rintro ⟨g, hmem, hall⟩
    refine ((le_topPriority ws _).1 le_rfl).imp_right ?_
    exact fun ⟨w, hw, htop⟩ => ⟨g, hmem, htop.trans (hall w hw)⟩

/-- What drops a candidate (R93): a window that guards its lane, under the rule of the bank's conflict field. -/
theorem conflictDrops_iff (k : Conditions) (u : BankUnit) (c : Candidate)
    (hc : c.priority = topPriority (u.windows.filter (ejectAsks k c.lane))) :
    conflictDrops k u c = true ↔ ∃ g ∈ u.windows, g.Guards k c.lane
      ∧ (u.desc.conflict = .protectFirst
        ∨ (u.desc.conflict = .byPriority ∧ ∀ e ∈ u.windows, e.Asks k c.lane → e.priority ≤ g.priority)) := by
  have hguarded : u.windows.any (protectCovers k c.lane) = true ↔ ∃ g ∈ u.windows, g.Guards k c.lane := by
    simp only [List.any_eq_true, protectCovers_iff]
  rw [conflictDrops, Bool.and_eq_true, hguarded]
  cases hrule : u.desc.conflict with
  | protectFirst => simp
  | ejectFirst => simp
  | byPriority =>
    have hranked (g : Window) (hg : g ∈ u.windows) (hguards : g.Guards k c.lane) :=
      topPriority_le_topPriority_iff (ws := u.windows.filter (ejectAsks k c.lane))
        (List.ne_nil_of_mem (List.mem_filter.2 ⟨hg, (protectCovers_iff k c.lane g).2 hguards⟩))
    simp only [List.mem_filter, ejectAsks_iff, protectCovers_iff, and_imp] at hranked
    simp only [decide_eq_true_eq, hc, reduceCtorEq, false_or, true_and]
    constructor
    · rintro ⟨⟨g, hg, hguards⟩, htop⟩
      obtain ⟨top, ⟨hmem, htopGuards⟩, hall⟩ := (hranked g hg hguards).1 htop
      exact ⟨top, hmem, htopGuards, hall⟩
    · rintro ⟨g, hg, hguards, hall⟩
      exact ⟨⟨g, hg, hguards⟩, (hranked g hg hguards).2 ⟨g, ⟨hg, hguards⟩, hall⟩⟩

/-- The dropped candidates are the lanes of `DroppedAt` (R92, R93). -/
theorem exists_dropped_candidate_iff (s : State) (u : BankUnit) (i : Fin 128) :
    (∃ c ∈ candidates s.atBoundary u, c.lane = i.val ∧ conflictDrops s.atBoundary u c = true) ↔ DroppedAt s u i := by
  have hmoving : s.atBoundary.stalled = false ↔ s.pos.stall ≠ .stalled := decide_eq_false_iff_not
  constructor
  · rintro ⟨c, hmem, hlane, hdrops⟩
    obtain ⟨j, hj, hc⟩ := (mem_candidates_iff _ _ _).1 hmem
    obtain rfl : j = i.val := (candidate_some hc).1.symm.trans hlane
    obtain ⟨⟨hfree, hhold, hstall, hasked⟩, rfl⟩ := (candidate?_eq_some_iff _ _ _ _).1 hc
    exact ⟨hj, hfree, hhold, hmoving.1 hstall, hasked, (conflictDrops_iff _ _ _ rfl).1 hdrops⟩
  · rintro ⟨hi, hfree, hhold, hstall, hasked, hguarded⟩
    exact ⟨_, (mem_candidates_iff _ _ _).2
      ⟨i, hi, (candidate?_eq_some_iff _ _ _ _).2 ⟨⟨hfree, hhold, hmoving.2 hstall, hasked⟩, rfl⟩⟩,
      rfl, (conflictDrops_iff _ _ _ rfl).2 hguarded⟩

/-- Windows that are still open at a boundary are found in the list as it composes. -/
theorem exists_mem_composing_iff (s : State) (b : BankIx) {P : Window → Prop}
    (hopen : ∀ w, P w → 0 < sdiff w.closePos s.atBoundary.p) :
    (∃ w ∈ (s.composing b).windows, P w) ↔ ∃ w ∈ (s.bank b).windows, P w := by
  simp only [State.composing_windows, List.mem_filter, decide_eq_true_eq]
  exact exists_congr fun w => ⟨fun ⟨⟨hmem, _⟩, hw⟩ => ⟨hmem, hw⟩, fun ⟨hmem, hw⟩ => ⟨⟨hmem, hopen w hw⟩, hw⟩⟩

/-- A boundary drops the same candidates whether the closed windows and the old latched image are still there: a closed window
neither asks for a lane nor guards one. -/
theorem droppedAt_composing (s : State) (b : BankIx) (i : Fin 128) :
    DroppedAt s (s.composing b) i ↔ DroppedAt s (s.bank b) i := by
  have hasked : (∃ e ∈ (s.composing b).windows, e.Asks s.atBoundary i) ↔
      ∃ e ∈ (s.bank b).windows, e.Asks s.atBoundary i :=
    exists_mem_composing_iff s b fun _ ⟨_, _, hopen, _⟩ => hopen
  have hranked (p : Nat) : (∀ e ∈ (s.composing b).windows, e.Asks s.atBoundary i → e.priority ≤ p) ↔
      ∀ e ∈ (s.bank b).windows, e.Asks s.atBoundary i → e.priority ≤ p := by
    have habove := exists_mem_composing_iff s b (P := fun e => e.Asks s.atBoundary i ∧ ¬ e.priority ≤ p)
      fun _ ⟨⟨_, _, hopen, _⟩, _⟩ => hopen
    simpa only [not_exists, not_and, not_not] using habove.not
  simp only [DroppedAt, hasked, hranked]
  rw [exists_mem_composing_iff s b fun _ ⟨⟨_, _, hopen, _⟩, _⟩ => hopen]
  rfl

/-! ## What a slot does to a window -/

/-- A window keeps its item, its range, its positions, its priority and its TRIMMED flag (R76). -/
theorem nextWindow_frame (k : Conditions) (u : BankUnit) (image : Image) (lanes : Vector Lane 128) (w : Window) :
    let v := nextWindow k u image lanes w
    v.item = w.item ∧ v.kind = w.kind ∧ v.lo = w.lo ∧ v.hi = w.hi ∧ v.openPos = w.openPos ∧ v.closePos = w.closePos
      ∧ v.priority = w.priority ∧ v.trimmed = w.trimmed := by
  unfold nextWindow
  split
  · and_intros <;> rfl
  · cases w.kind <;> exact ⟨rfl, rfl, rfl, rfl, rfl, rfl, rfl, rfl⟩

theorem nextWindow_of_not_demands {k : Conditions} {u : BankUnit} {image : Image} {lanes : Vector Lane 128} {w : Window}
    (h : w.demands k = false) : nextWindow k u image lanes w = w := by
  rw [nextWindow, h]
  rfl

/-- A window that demands is OPEN and counts the slot (R76, R87, R97). -/
theorem nextWindow_counts {k : Conditions} (u : BankUnit) (image : Image) (lanes : Vector Lane 128) {w : Window}
    (h : w.demands k = true) :
    (nextWindow k u image lanes w).state = .opened ∧ (nextWindow k u image lanes w).due = satInc w.due
      ∧ (nextWindow k u image lanes w).any = if anyOn image w.lo w.hi then satInc w.any else w.any := by
  rw [nextWindow, h]
  cases w.kind <;> exact ⟨rfl, rfl, rfl⟩

/-- A PROTECT window counts no full slots, is not denied and truncates nothing (R93, R96, R97). -/
theorem nextWindow_protect (k : Conditions) (u : BankUnit) (image : Image) (lanes : Vector Lane 128) {w : Window}
    (hkind : w.kind = .protect) :
    (nextWindow k u image lanes w).full = w.full ∧ (nextWindow k u image lanes w).protectDenied = w.protectDenied
      ∧ (nextWindow k u image lanes w).truncated = w.truncated := by
  rw [nextWindow, hkind]
  cases w.demands k <;> exact ⟨rfl, rfl, rfl⟩

theorem nextWindow_eject_full {k : Conditions} (u : BankUnit) (image : Image) (lanes : Vector Lane 128) {w : Window}
    (h : w.demands k = true) (hkind : w.kind = .eject) :
    (nextWindow k u image lanes w).full = if allOn image w.lo w.hi then satInc w.full else w.full := by
  rw [nextWindow, h, hkind]
  rfl

/-- An EJECT window that demands is denied when a conflict drops a lane it asks for (R93). -/
theorem nextWindow_eject_protectDenied {s : State} {u : BankUnit} (image : Image) (lanes : Vector Lane 128) {w : Window}
    (h : w.demands s.atBoundary = true) (hkind : w.kind = .eject) (hlanes : u.desc.lanes ≤ 128) :
    (nextWindow s.atBoundary u image lanes w).protectDenied = true ↔ w.protectDenied = true
      ∨ ∃ i : Fin 128, w.lo ≤ i.val ∧ i.val ≤ w.hi ∧ w.truncated.getLsbD i.val = false ∧ DroppedAt s u i := by
  have hdenied : (nextWindow s.atBoundary u image lanes w).protectDenied =
      (w.protectDenied || (candidates s.atBoundary u).any fun c => conflictDrops s.atBoundary u c && w.asks c.lane) := by
    rw [nextWindow, h, hkind]
    rfl
  simp only [hdenied, Bool.or_eq_true, List.any_eq_true, Bool.and_eq_true, Window.asks_iff,
    ← exists_dropped_candidate_iff]
  refine or_congr_right ⟨?_, ?_⟩
  · rintro ⟨c, hmem, hdrops, hlo, hhi, huncut⟩
    obtain ⟨j, hj, hc⟩ := (mem_candidates_iff _ _ _).1 hmem
    have hlane : c.lane < 128 := by
      rw [(candidate_some hc).1]
      exact hj.trans_le hlanes
    exact ⟨⟨c.lane, hlane⟩, hlo, hhi, huncut, c, hmem, rfl, hdrops⟩
  · rintro ⟨i, hlo, hhi, huncut, c, hmem, hlane, hdrops⟩
    rw [← hlane] at hlo hhi huncut
    exact ⟨c, hmem, hdrops, hlo, hhi, huncut⟩

/-- An EJECT window that demands truncates, under TRUNCATE, the lanes it asks for whose run ends with the slot (R96). -/
theorem nextWindow_eject_truncated {k : Conditions} {u : BankUnit} (image : Image) (lanes : Vector Lane 128) {w : Window}
    (h : w.demands k = true) (hkind : w.kind = .eject) (hlanes : u.desc.lanes ≤ 128) (i : Fin 128) :
    (nextWindow k u image lanes w).truncated.getLsbD i.val = true ↔ w.truncated.getLsbD i.val = true
      ∨ (u.desc.longPolicy = .truncate ∧ i.val < u.desc.lanes ∧ w.lo ≤ i.val ∧ i.val ≤ w.hi
        ∧ image.getLsbD i.val = true ∧ lanes[i].onRun = u.desc.maxSlots) := by
  have hcut : (nextWindow k u image lanes w).truncated =
      if u.desc.longPolicy = .truncate then w.truncated ||| imageOf u.desc.lanes fun i =>
        w.asks i && image.getLsbD i && decide ((lanes.toList.getD i .rest).onRun = u.desc.maxSlots)
      else w.truncated := by
    rw [nextWindow, h, hkind]
    rfl
  have hlane : lanes.toList.getD i.val .rest = lanes[i] := by simp
  rw [hcut]
  split
  case isTrue hpolicy =>
    simp only [BitVec.getLsbD_or, Bool.or_eq_true, imageOf_bit _ _ hlanes, Bool.and_eq_true, decide_eq_true_eq,
      Window.asks_iff, hlane, hpolicy, true_and]
    cases w.truncated.getLsbD i.val <;> simp [and_assoc]
  case isFalse hpolicy => simp only [hpolicy, false_and, or_false]

/-- Settles O32: the windows that stay are those of `State.composing`, each as `nextWindow` leaves it. -/
theorem boundaryCountsDemandingWindows : Obligations.BoundaryCountsDemandingWindows := by
  rintro s b n rest p hrun hkind hn rfl
  refine ⟨bankBoundary b s, whenRunning_running _ hrun, ?_⟩
  have hbank : (bankBoundary b s).bank b = countHold (compose s.atBoundary (s.composing b)) :=
    bankBoundary_inUse_bank hkind hn
  generalize (bankBoundary b s).bank b = v at hbank ⊢
  have hwindows : v.windows = (s.composing b).windows.map
      (nextWindow s.atBoundary (s.composing b) v.composed v.lanes) := by
    rw [hbank, countHold_eq]
    rfl
  rw [hwindows, State.composing_windows, List.forall₂_map_right_iff]
  refine List.forall₂_same.2 fun w hw => ?_
  have hopen : 0 < sdiff w.closePos s.atBoundary.p := of_decide_eq_true (List.mem_filter.1 hw).2
  have hdemands (h : sdiff w.openPos s.atBoundary.p < (max s.pos.c 1 : Nat) ∨ w.trimmed = true) :
      w.demands s.atBoundary = true := (w.demands_iff _).2 ⟨h, hopen⟩
  obtain ⟨hitem, hkept, hlo, hhi, hopenPos, hclosePos, hpriority, htrimmed⟩ :=
    nextWindow_frame s.atBoundary (s.composing b) v.composed v.lanes w
  refine ⟨hitem, hkept, hlo, hhi, hopenPos, hclosePos, hpriority, htrimmed, fun h => ?_, fun hprotect => ?_, fun h => ?_⟩
  · exact nextWindow_of_not_demands (Bool.eq_false_iff.2 fun hd => h ((w.demands_iff _).1 hd).1)
  · exact (nextWindow_protect _ _ _ _ hprotect).2
  · obtain ⟨hstate, hdue, hany⟩ := nextWindow_counts (s.composing b) v.composed v.lanes (hdemands h)
    refine ⟨hstate, hdue, hany.trans (if_congr (anyOn_iff _ _ _) rfl rfl), fun heject hinside => ?_,
      fun hprotect => (nextWindow_protect _ _ _ _ hprotect).1, fun heject hlanes => ?_⟩
    · exact (nextWindow_eject_full _ _ _ (hdemands h) heject).trans (if_congr (allOn_iff _ _ hinside) rfl rfl)
    · rw [← State.composing_desc] at hlanes ⊢
      simp only [← droppedAt_composing]
      exact ⟨nextWindow_eject_protectDenied _ _ (hdemands h) heject hlanes,
        nextWindow_eject_truncated _ _ (hdemands h) heject hlanes⟩

end Sys2Proof.Machine

/-! The Bank Units one by one: what every command keeps of each (R63, R78, R89, R105, R111). -/

namespace Sys2Proof.Machine

/-! ## A relation of one Bank Unit -/

/-- A relation of one Bank Unit that everything the part does to a Bank Unit keeps: a power-on, a reset, a flush, a change of
mode, clearing the composed image, latching an image, a boundary in use and DISABLED, a STATUS frame, the AIR report, a BANK
write, the ninth step of a record, CLEAR COUNTERS. -/
structure BankClosed (P : BankUnit → Prop) : Prop where
  powerOn : P .powerOn
  reset : ∀ {u}, P u → P (resetBank u)
  flush : ∀ {u}, P u → P (flushBank u)
  mode : ∀ (m : Mode) {u}, P u → P (takeMode m u)
  clearComposed : ∀ {u}, P u → P (clearComposed u)
  latch : ∀ (image : Image) {u : BankUnit}, P u → P { u with latched := image }
  boundary : ∀ (k : Conditions) {u}, P u → P (turnSlot k u)
  disabled : ∀ {u : BankUnit}, P u → P (countHold { u with composed := 0 })
  status : ∀ (d : DriverStatus) {u}, P u → P (takeStatus d u)
  air : ∀ (report ended : Bool) {u : BankUnit}, P u → P { u with airReport := report, holdEnd := ended }
  write : ∀ {e : BankEntry} {u : BankUnit}, e.inRange = true → P u → P { u with desc := e }
  settle : ∀ (id : BitVec 16) (priority : Nat) {p : Plan} {u : BankUnit},
    (p.isListed = true → u.windows.length < 512) → P u → P (settleBank id priority p u)
  clear : ∀ {u : BankUnit}, P u →
    P { u with counters := { BankCounters.zero with created := BitVec.ofNat 32 u.windows.length } }

/-- Every Bank Unit meets a relation. -/
def AllBanks (P : BankUnit → Prop) (s : State) : Prop := ∀ b, P (s.bank b)

namespace AllBanks

theorem of_banks {P : BankUnit → Prop} {s t : State} (h : AllBanks P s) (hb : t.banks = s.banks) : AllBanks P t := by
  intro b
  rw [State.bank_congr hb]
  exact h b

theorem setBank {P : BankUnit → Prop} {s : State} (h : AllBanks P s) (b : BankIx) {u : BankUnit} (hu : P u) :
    AllBanks P (s.setBank b u) := by
  intro c
  rw [State.bank_setBank]
  split
  · exact hu
  · exact h c

theorem setBankHanded {P : BankUnit → Prop} {s : State} (h : AllBanks P s) (b : BankIx) (g : BankHanded) :
    AllBanks P (s.setBankHanded b g) := h

theorem raise {P : BankUnit → Prop} {s : State} (h : AllBanks P s) (fs : List EventFlag) : AllBanks P (raise fs s) :=
  h.of_banks (by simp)

theorem serve {P : BankUnit → Prop} {want : Decoded → Option Act} {s : State} (h : AllBanks P s)
    (hact : ∀ d act, want d = some act → AllBanks P (act s).1) : AllBanks P (serve want s) :=
  serve_keeps want s h (fun _ _ h => h.of_banks (by simp)) (fun _ _ h => h) fun d act hw _ => hact d act hw

end AllBanks

/-! ## Clearing the composed image -/

/-- What clearing the composed image leaves alone. -/
@[simp] theorem clearComposed_frame (u : BankUnit) :
    (clearComposed u).desc = u.desc ∧ (clearComposed u).mode = u.mode ∧ (clearComposed u).windows = u.windows
      ∧ (clearComposed u).latched = u.latched ∧ (clearComposed u).airLow = u.airLow
      ∧ (clearComposed u).airReport = u.airReport ∧ (clearComposed u).holdEnd = u.holdEnd
      ∧ (clearComposed u).inhibit = u.inhibit ∧ (clearComposed u).counters = u.counters := by
  simp [clearComposed]

@[simp] theorem clearComposed_composed (u : BankUnit) : (clearComposed u).composed = 0 := by simp [clearComposed]

/-! ## The requests that leave the Bank Units alone -/

@[simp] theorem writeLineAct_banks (i : Nat) (entry : List Byte) (s : State) :
    (writeLineAct i entry s).1.banks = s.banks := by
  unfold writeLineAct
  split <;> [skip; (split <;> [skip; split])] <;> simp

@[simp] theorem writeStationAct_banks (i : Nat) (entry : List Byte) (s : State) :
    (writeStationAct i entry s).1.banks = s.banks := by
  unfold writeStationAct
  split <;> [skip; split] <;> simp

@[simp] theorem writeBandAct_banks (i : Nat) (entry : List Byte) (s : State) :
    (writeBandAct i entry s).1.banks = s.banks := by
  unfold writeBandAct
  split <;> [split; skip] <;> simp

@[simp] theorem writeRecipeAct_banks (set : Fin 2) (i : Nat) (entry : List Byte) (s : State) :
    (writeRecipeAct set i entry s).1.banks = s.banks := by
  unfold writeRecipeAct
  repeat' split
  all_goals simp

@[simp] theorem selectSetAct_banks (n : Nat) (s : State) : (selectSetAct n s).1.banks = s.banks := by
  unfold selectSetAct
  split <;> rfl

@[simp] theorem operatorAct_banks (on : Bool) (s : State) : (operatorAct on s).1.banks = s.banks := by
  simp [operatorAct]

/-! ## What a BANK write can do -/

theorem writeBankAct_cases (i : Nat) (bytes : List Byte) (s : State) :
    (writeBankAct i bytes s).1 = s
      ∨ ∃ b e, BankEntry.inRange e = true ∧ (writeBankAct i bytes s).1 = applyBank b e s := by
  unfold writeBankAct
  split <;> [(split <;> [skip; (split <;> [skip; split])]); skip]
  case h_2.isTrue e _ hrange => exact .inr ⟨_, e, hrange, rfl⟩
  all_goals exact .inl rfl

/-- A LISTED verdict finds room in the list (R74, R78). -/
theorem length_lt_of_planBank_isListed {s : State} {r : Detection} {w : Winner} {b : BankIx}
    (h : (planBank s r w b).isListed = true) : (s.bank b).windows.length < 512 := by
  by_contra hfull
  have hdropped : Config.listCapacity ≤ (s.bank b).windows.length := Nat.not_lt.1 hfull
  revert h
  unfold planBank plan
  simp only [hdropped, if_true]
  repeat' split
  all_goals simp [Plan.isListed]

/-! ## The operations on all the Bank Units -/

namespace BankClosed

variable {P : BankUnit → Prop} (hP : BankClosed P)

include hP

theorem reportAir (b : BankIx) {s : State} (h : AllBanks P s) : AllBanks P (reportAir b s) := by
  rw [reportAir_eq]
  exact (h.setBank b (hP.air _ (s.bank b).holdEnd (h b))).setBankHanded b _

theorem endHold (b : BankIx) {s : State} (h : AllBanks P s) : AllBanks P (endHold b s) := by
  rw [endHold_eq (withdrawn := decide ((s.bank b).holdEnd = true ∧ (s.bank b).airReport = true)) (by simp)]
  exact (h.setBank b (hP.air _ _ (h b))).setBankHanded b _

theorem applyBank (b : BankIx) {e : BankEntry} (he : e.inRange = true) {s : State} (h : AllBanks P s) :
    AllBanks P (applyBank b e s) := by
  have hended := hP.endHold b h
  exact hP.reportAir b (hended.setBank b (hP.write he (hended b)))

theorem writeBankAct (i : Nat) (bytes : List Byte) {s : State} (h : AllBanks P s) :
    AllBanks P (writeBankAct i bytes s).1 := by
  obtain heq | ⟨b, e, he, heq⟩ := writeBankAct_cases i bytes s
  · rw [heq]
    exact h
  · rw [heq]
    exact hP.applyBank b he h

theorem statusTaken (b : BankIx) (d : DriverStatus) {s : State} (h : AllBanks P s) :
    AllBanks P (Machine.reportAir b ((Machine.endHold b s).setBank b (takeStatus d ((Machine.endHold b s).bank b)))) := by
  have hended := hP.endHold b h
  exact hP.reportAir b (hended.setBank b (hP.status d (hended b)))

theorem allOff {s : State} (h : AllBanks P s) : AllBanks P (allOff s) := by
  unfold Machine.allOff
  induction BankIx.all generalizing s with
  | nil => exact h
  | cons b bs ih =>
    refine ih ?_
    unfold allOffBank
    dsimp only
    split
    · exact h
    · exact (h.setBank b (hP.latch 0 (hP.clearComposed (h b)))).of_banks (by simp)

theorem flushLine {s : State} (h : AllBanks P s) : AllBanks P (flushLine s) := by
  intro b
  rw [flushLine_bank]
  exact hP.flush (h b)

theorem flushInto (m : Mode) {s : State} (h : AllBanks P s) : AllBanks P (flushInto m s) := by
  intro b
  rw [flushInto_bank]
  exact hP.mode m (hP.flush (h b))

theorem faultEntry (cause : FaultCause) {s : State} (h : AllBanks P s) : AllBanks P (faultEntry cause s) :=
  hP.flushInto .fault h

theorem takeEmergencyStop {s : State} (h : AllBanks P s) : AllBanks P (takeEmergencyStop s) := by
  unfold Machine.takeEmergencyStop
  dsimp only
  split
  · exact (hP.allOff h).raise _
  · exact (hP.faultEntry _ (hP.allOff h)).raise _

theorem readStop (stop : StopLevel) {s : State} (h : AllBanks P s) : AllBanks P (readStop stop s) := by
  have hstop : AllBanks P { s with stopn := stop } := h
  unfold Machine.readStop
  dsimp only
  split
  · exact hP.takeEmergencyStop hstop
  · exact hstop

theorem doStop {s : State} (h : AllBanks P s) : AllBanks P (doStop s).1 := by
  have hmode : ∀ m mc, AllBanks P (changeMode m { s with mc := mc }) := fun _ _ => h
  unfold Machine.doStop
  split <;> [(dsimp only; split); skip; skip]
  · exact (hmode _ _).raise _
  · exact hmode _ _
  · exact hP.flushInto .standby h
  · exact h

theorem bankBoundary (b : BankIx) {s : State} (h : AllBanks P s) : AllBanks P (bankBoundary b s) := by
  unfold Machine.bankBoundary
  split <;> [skip; (dsimp only; split)]
  · exact h
  · exact h.setBank b (hP.disabled (hP.latch 0 (h b)))
  · intro c
    by_cases hc : c = b
    · subst hc
      rw [boundaryInUse_bank]
      exact hP.boundary _ (hP.latch _ (h c))
    · rw [(boundaryInUse_ne _ _ hc).1]
      exact h c

theorem takeRecord (r : Detection) {s : State} (h : AllBanks P s) : AllBanks P (takeRecord r s) := by
  have hrefuse : ∀ why t, t.banks = s.banks → AllBanks P (refuse why t) := fun why t ht => h.of_banks (by simpa using ht)
  unfold Machine.takeRecord
  dsimp only
  split <;> [skip; (split <;> [skip; (split <;> [skip; split])])]
  · exact hrefuse _ _ (by simp)
  · exact hrefuse _ _ (by simp)
  · exact hrefuse _ _ (by simp)
  · exact hrefuse _ _ (by simp)
  · unfold settleRecord
    split <;> [split; skip]
    · exact hrefuse _ _ (by simp)
    · intro b
      rw [enterItem_bank]
      exact hP.settle _ _ (fun hb => length_lt_of_planBank_isListed hb) (h b)
    · intro b
      rw [passRecord_bank]
      exact hP.settle _ _ (fun hb => length_lt_of_planBank_isListed hb) (h b)

theorem clearCountersAct (g : GroupId) (bank : Nat) {s : State} (h : AllBanks P s) :
    AllBanks P (clearCountersAct g bank s).1 := by
  unfold Machine.clearCountersAct
  cases g <;> dsimp only [clearGroup]
  case bank =>
    split <;> [skip; exact h]
    rename_i t ht
    split at ht <;> cases ht
    exact h.setBank _ (hP.clear (h _))
  all_goals exact h.of_banks (by simp)

theorem resetBlocks (kept : Option Frame) {s : State} (h : AllBanks P s) : AllBanks P (resetBlocks kept s) := by
  intro b
  rw [resetBlocks_bank]
  exact hP.reset (h b)

/-- Every command keeps such a relation of every Bank Unit. -/
theorem exec_keeps {c : Instr} {s t : State} (h : AllBanks P s) (he : exec c s = .next t) : AllBanks P t := by
  cases c <;> dsimp only [exec] at he
  case resetnAsserted => cases he; exact h
  case powerOn straps enc stop =>
    cases he
    refine hP.readStop _ fun b => ?_
    simpa [State.powerOn, State.bank] using hP.powerOn
  case softResetPerformed stop =>
    refine whenRunning_keeps h (fun h => ?_) he
    split
    · exact hP.readStop _ (hP.resetBlocks _ h)
    · exact h
    · exact h
  case flush => exact whenRunning_keeps h (fun h => hP.flushLine h) he
  case emergencyStop =>
    refine whenRunning_keeps h (fun h => ?_) he
    exact hP.takeEmergencyStop (s := { s with stopn := .asserted }) h
  case encoderFault =>
    refine whenRunning_keeps h (fun h => ?_) he
    have htaken : AllBanks P { s with handed := { s.handed with encoder := s.handed.encoder - 1 } } := h
    split <;> [skip; (dsimp only; split)]
    · exact h
    · exact htaken.raise _
    · exact (hP.faultEntry _ htaken).raise _
  case beltReversal =>
    refine whenRunning_keeps h (fun h => ?_) he
    have htaken : AllBanks P { s with handed := { s.handed with reversal := s.handed.reversal - 1 } } := h
    split <;> [skip; (dsimp only; split)]
    · exact h
    · exact (hP.faultEntry _ htaken).raise _
    · exact htaken
  case drainTimeout =>
    refine whenRunning_keeps h (fun h => ?_) he
    split
    · exact (hP.flushInto .standby h).raise _
    · exact h
  case slotBoundary part =>
    refine whenRunning_keeps h (fun h => ?_) he
    cases part with
    | clock => exact h.of_banks (by simp)
    | bank b => exact hP.bankBoundary b h
  case airLowHoldEnd b => exact whenRunning_keeps h (fun h => hP.endHold b h) he
  case bankModeChange b =>
    refine whenRunning_keeps h (fun h => ?_) he
    split
    · exact h
    · exact h.setBank b (hP.mode _ (h b))
  case statusFrame b =>
    refine whenRunning_keeps h (fun h => ?_) he
    have htaken : ∀ rest, AllBanks P (s.setBankHanded b { s.bankHanded b with status := rest }) := fun _ => h
    split
    · exact h
    · dsimp only
      split <;> [skip; split]
      · exact htaken _
      · exact (hP.statusTaken b _ (htaken _)).raise _
      · exact hP.statusTaken b _ (htaken _)
  case holdReasonReport src =>
    refine whenRunning_keeps h (fun h => ?_) he
    cases src <;> dsimp only <;> split <;> exact h.of_banks (by simp)
  case detectRecord =>
    refine whenRunning_keeps h (fun h => ?_) he
    split
    · exact h
    · exact hP.takeRecord _ (s := { s with intake := { s.intake with held := _ } }) h
  case clearCounters =>
    refine whenRunning_keeps h (fun h => h.serve fun d act hw => ?_) he
    split at hw <;> cases hw
    exact hP.clearCountersAct _ _ h
  case stop =>
    refine whenRunning_keeps h (fun h => h.serve fun d act hw => ?_) he
    split at hw <;> cases hw
    exact hP.doStop h
  case writeBank =>
    refine whenRunning_keeps h (fun h => h.serve fun d act hw => ?_) he
    split at hw <;> cases hw
    exact hP.writeBankAct _ _ h
  case readLine | readStation | readBand | readBank | readRecipe | readTrack | readWindows | writeTrack | writeWindows
      | unknownRequest | readStatus | readCounters | clearEvents | setMask =>
    refine whenRunning_keeps h (fun h => h.serve fun d act hw => ?_) he
    split at hw <;> cases hw
    exact h
  case start | clearFault | writeLine | writeStation | writeBand | writeRecipe | selectSet | holdFeed | releaseFeed
      | prove =>
    refine whenRunning_keeps h (fun h => h.serve fun d act hw => ?_) he
    split at hw <;> cases hw
    exact h.of_banks (by simp)
  case retirementReport =>
    refine whenRunning_keeps h (fun h => ?_) he
    split <;> [exact h; skip]
    dsimp only
    (repeat' split) <;> exact h.of_banks (by simp)
  case binClose | receiverLocked | partnerReadyChange | signalLoss | monitorWindowClose | codeError =>
    refine whenRunning_keeps h (fun h => ?_) he
    dsimp only
    (repeat' split) <;> exact h.of_banks (by simp)
  all_goals
    refine whenRunning_keeps h (fun h => ?_) he
    (repeat' split) <;> exact h.of_banks (by simp)

/-- Every step keeps such a relation of every Bank Unit. -/
theorem step_keeps {s t : State} (h : AllBanks P s) (hs : step s = .next t) : AllBanks P t :=
  Machine.step_keeps (AllBanks P) (fun _ _ h => h) (fun _ _ _ h he => hP.exec_keeps h he) s t h hs

end BankClosed

end Sys2Proof.Machine

/-! O9: the balance of each bank's counters (R111). -/

namespace Sys2Proof.Machine

/-! ## Counting in a list of saturating counters -/

/-- The created counter stands at `n` above the sum of the outcome counters, unless it or one of them has saturated. -/
def Tallied (created : Counter) (outcomes : List Counter) (n : Nat) : Prop :=
  created = BitVec.allOnes 32 ∨ BitVec.allOnes 32 ∈ outcomes ∨ created.toNat = n + (outcomes.map BitVec.toNat).sum

theorem satInc_eq_satAdd (c : Counter) : satInc c = satAdd c 1 :=
  BitVec.eq_of_toNat_eq (by rw [satInc_toNat, satAdd_toNat])

theorem satAdd_eq_allOnes_iff (c : Counter) (n : Nat) : satAdd c n = BitVec.allOnes 32 ↔ 4294967295 ≤ c.toNat + n := by
  rw [← BitVec.toNat_inj, satAdd_toNat, BitVec.toNat_allOnes]
  omega

theorem satAdd_allOnes (n : Nat) : satAdd (BitVec.allOnes 32) n = BitVec.allOnes 32 := by
  rw [satAdd_eq_allOnes_iff, BitVec.toNat_allOnes]
  omega

theorem sum_set_add (ns : List Nat) {i : Nat} (hi : i < ns.length) (k : Nat) : (ns.set i (ns[i] + k)).sum = ns.sum + k := by
  induction ns generalizing i with
  | nil => simp at hi
  | cons n ns ih =>
    cases i with
    | zero => simp; omega
    | succ i =>
      have := ih (i := i) (by simpa using hi)
      simp only [List.set_cons_succ, List.getElem_cons_succ, List.sum_cons]
      omega

/-- Adding to one counter of a list leaves a saturated one in it, or adds as much to the sum. -/
theorem sum_set_satAdd (cs : List Counter) {i : Nat} (hi : i < cs.length) (k : Nat) :
    BitVec.allOnes 32 ∈ cs.set i (satAdd cs[i] k)
      ∨ ((cs.set i (satAdd cs[i] k)).map BitVec.toNat).sum = (cs.map BitVec.toNat).sum + k := by
  by_cases hfull : satAdd cs[i] k = BitVec.allOnes 32
  · exact .inl (hfull ▸ List.mem_set hi _)
  · refine .inr ?_
    have hroom : cs[i].toNat + k < 4294967295 := by rwa [satAdd_eq_allOnes_iff, Nat.not_le] at hfull
    have hadd : (satAdd cs[i] k).toNat = cs[i].toNat + k := by
      rw [satAdd_toNat]
      omega
    have hset := sum_set_add (cs.map BitVec.toNat) (i := i) (by simpa using hi) k
    rw [List.map_set, hadd]
    simpa using hset

theorem mem_set_satAdd {cs : List Counter} {i : Nat} (hi : i < cs.length) (k : Nat) (h : BitVec.allOnes 32 ∈ cs) :
    BitVec.allOnes 32 ∈ cs.set i (satAdd cs[i] k) := by
  obtain ⟨j, hj, hat⟩ := List.mem_iff_getElem.1 h
  refine List.mem_iff_getElem.2 ⟨j, by simpa using hj, ?_⟩
  by_cases hij : i = j
  · subst hij
    rw [List.getElem_set_self, hat, satAdd_allOnes]
  · rw [List.getElem_set_ne hij, hat]

namespace Tallied

theorem create {created : Counter} {outcomes : List Counter} {n : Nat} (h : Tallied created outcomes n) :
    Tallied (satInc created) outcomes (n + 1) := by
  obtain rfl | hmem | hsum := h
  · exact .inl (by rw [satInc_eq_satAdd, satAdd_allOnes])
  · exact .inr (.inl hmem)
  · by_cases hfull : satInc created = BitVec.allOnes 32
    · exact .inl hfull
    · refine .inr (.inr ?_)
      rw [satInc_eq_satAdd, satAdd_eq_allOnes_iff] at hfull
      rw [satInc_toNat]
      omega

/-- `k` of those still standing counted under one outcome. -/
theorem count {created : Counter} {outcomes : List Counter} {n k i : Nat} (hi : i < outcomes.length)
    (h : Tallied created outcomes (n + k)) : Tallied created (outcomes.set i (satAdd outcomes[i] k)) n := by
  obtain hfull | hmem | hsum := h
  · exact .inl hfull
  · exact .inr (.inl (mem_set_satAdd hi k hmem))
  · obtain hmem | hset := sum_set_satAdd outcomes hi k
    · exact .inr (.inl hmem)
    · refine .inr (.inr ?_)
      omega

end Tallied

/-! ## A Bank Unit's balance -/

/-- A Bank Unit's counters and its list balance (R111), and the list has room for what it holds (R78). -/
def BankUnit.Balanced (u : BankUnit) : Prop :=
  u.windows.length ≤ 512 ∧ Tallied u.counters.created u.counters.balance u.windows.length

theorem balanceInv_iff (s : State) : BalanceInv s ↔ AllBanks BankUnit.Balanced s := Iff.rfl

/-- Where an outcome stands in the list of a bank's outcome counters. -/
def Outcome.place : Outcome → Fin 9
  | .fired => 0
  | .partialServed => 1
  | .missed => 2
  | .suppressed => 3
  | .kept => 4
  | .breached => 5
  | .abandoned => 8

theorem BankCounters.balance_countOutcome (c : BankCounters) (o : Outcome) :
    (c.countOutcome o).balance = c.balance.set o.place (satInc c.balance[o.place]) := by
  cases o <;> rfl

theorem BankCounters.created_countOutcome (c : BankCounters) (o : Outcome) : (c.countOutcome o).created = c.created := by
  cases o <;> rfl

theorem tallied_count_place {c : BankCounters} {created : Counter} {n k : Nat} (i : Fin 9)
    (h : Tallied created c.balance (n + k)) : Tallied created (c.balance.set i (satAdd c.balance[i] k)) n :=
  h.count i.isLt

theorem tallied_countOutcome {c : BankCounters} {n : Nat} (h : Tallied c.created c.balance (n + 1)) (o : Outcome) :
    Tallied (c.countOutcome o).created (c.countOutcome o).balance n := by
  rw [c.created_countOutcome, c.balance_countOutcome, satInc_eq_satAdd]
  exact tallied_count_place o.place h

/-- Counting the windows of a list out one by one. -/
theorem tallied_foldl_countOutcome (ws : List Window) {c : BankCounters} {n : Nat}
    (h : Tallied c.created c.balance (n + ws.length)) :
    Tallied (ws.foldl (fun c w => c.countOutcome w.outcome) c).created
      (ws.foldl (fun c w => c.countOutcome w.outcome) c).balance n := by
  induction ws generalizing c with
  | nil => exact h
  | cons w ws ih => exact ih (tallied_countOutcome h w.outcome)

namespace BankUnit.Balanced

theorem retireClosed {u : BankUnit} (h : u.Balanced) (p : Pos) : (retireClosed p u).Balanced := by
  obtain ⟨hroom, htally⟩ := h
  have hsplit : u.windows.length
      = (u.windows.filter fun w => !w.closed p).length + (u.windows.filter fun w => w.closed p).length := by
    have := List.length_eq_length_filter_add (l := u.windows) fun w => !w.closed p
    simpa using this
  refine ⟨(List.length_filter_le _ _).trans hroom, tallied_foldl_countOutcome _ ?_⟩
  rwa [hsplit] at htally

theorem turnSlot {u : BankUnit} (h : u.Balanced) (k : Conditions) : (turnSlot k u).Balanced := by
  have hretired := h.retireClosed k.p
  simpa [Balanced, Machine.turnSlot, countHold_eq, compose, BankCounters.balance] using hretired

theorem flushBank {u : BankUnit} (h : u.Balanced) : (flushBank u).Balanced := by
  obtain ⟨hroom, htally⟩ := h
  refine ⟨Nat.zero_le _, ?_⟩
  rw [← Nat.zero_add u.windows.length] at htally
  exact tallied_count_place 8 htally

theorem settle {u : BankUnit} (h : u.Balanced) (id : BitVec 16) (priority : Nat) {p : Plan}
    (hfree : p.isListed = true → u.windows.length < 512) : (settleBank id priority p u).Balanced := by
  obtain ⟨hroom, htally⟩ := h
  cases p with
  | none => exact ⟨hroom, htally⟩
  | uncovered => exact ⟨hroom, htally⟩
  | late =>
    refine ⟨hroom, ?_⟩
    have hcount := tallied_count_place 6 htally.create
    rwa [← satInc_eq_satAdd] at hcount
  | dropped =>
    refine ⟨hroom, ?_⟩
    have hcount := tallied_count_place 7 htally.create
    rwa [← satInc_eq_satAdd] at hcount
  | listed kind w =>
    have hlen : (settleBank id priority (.listed kind w) u).windows.length = u.windows.length + 1 :=
      (insertWindow_perm _ _).length_eq
    unfold Balanced
    rw [hlen]
    exact ⟨hfree rfl, htally.create⟩

theorem clear {u : BankUnit} (h : u.Balanced) :
    Balanced { u with counters := { BankCounters.zero with created := BitVec.ofNat 32 u.windows.length } } := by
  obtain ⟨hroom, -⟩ := h
  refine ⟨hroom, .inr (.inr ?_)⟩
  show (BitVec.ofNat 32 u.windows.length).toNat = u.windows.length + 0
  rw [BitVec.toNat_ofNat, Nat.mod_eq_of_lt (by omega), Nat.add_zero]

theorem of_empty {u : BankUnit} (hwindows : u.windows = []) (hcounters : u.counters = .zero) : u.Balanced := by
  unfold Balanced
  rw [hwindows, hcounters]
  exact ⟨by decide, .inr (.inr rfl)⟩

theorem congr {u v : BankUnit} (h : u.Balanced) (hwindows : v.windows = u.windows)
    (hcreated : v.counters.created = u.counters.created) (hbalance : v.counters.balance = u.counters.balance) :
    v.Balanced := by
  unfold Balanced
  rw [hwindows, hcreated, hbalance]
  exact h

theorem bankClosed : BankClosed Balanced where
  powerOn := of_empty rfl rfl
  reset _ := of_empty rfl rfl
  flush h := h.flushBank
  mode m u h := by
    unfold takeMode
    dsimp only
    split <;> exact h.congr (by simp) (by simp) (by simp)
  clearComposed h := h.congr (by simp) (by simp) (by simp)
  latch _ _ h := h.congr rfl rfl rfl
  boundary k _ h := h.turnSlot k
  disabled h := by
    rw [countHold_eq]
    exact h.congr rfl rfl rfl
  status d u h := by
    unfold takeStatus
    dsimp only
    split
    · refine h.congr rfl ?_ ?_ <;> dsimp only <;> split <;> rfl
    · exact h.congr rfl rfl rfl
  air _ _ _ h := h.congr rfl rfl rfl
  write _ h := h.congr rfl rfl rfl
  settle id priority _ _ hfree h := h.settle id priority hfree
  clear h := h.clear

end BankUnit.Balanced

/-- Settles O9: a step counts every window it takes off a list under one outcome, and every window it creates. -/
theorem stepKeepsTheBankBalance : Obligations.StepKeepsTheBankBalance := by
  intro s t h hs
  rw [balanceInv_iff] at h ⊢
  exact BankUnit.Balanced.bankClosed.step_keeps h hs

end Sys2Proof.Machine

/-! Which lanes a composition turns on (R90 to R92, R94). -/

namespace Sys2Proof.Machine

/-! ## Blocked lanes, hold lanes, candidates -/

/-- The lanes of an image that a choice of lanes gives, of any number. -/
theorem imageOf_lane (n : Nat) (f : Nat → Bool) (i : Fin 128) :
    (imageOf n f).getLsbD i.val = (decide (i.val < n) && f i.val) := by
  induction n with
  | zero => simp [imageOf]
  | succ n ih =>
    have hself : (BitVec.twoPow 128 n).getLsbD i.val = decide (i.val = n) := by
      simp [i.isLt, eq_comm]
    have hsplit : decide (i.val < n + 1) = (decide (i.val < n) || decide (i.val = n)) := by
      rw [← Bool.decide_or, decide_eq_decide]
      omega
    unfold imageOf
    by_cases hi : i.val = n
    · split <;> simp_all
    · split <;> simp_all

theorem blocked_iff_laneBlocked (k : Conditions) (u : BankUnit) (i : Fin 128) :
    blocked k u i.val = true ↔ LaneBlocked k u u.lanes[i] := by
  rw [blocked_iff, lane_get, LaneBlocked]

/-- Which lanes are in minimum-pulse hold (R91). -/
theorem holdLane_iff (k : Conditions) (u : BankUnit) (i : Fin 128) :
    holdLane k u i.val = true ↔ ¬ LaneBlocked k u u.lanes[i] ∧ 0 < u.lanes[i].holdLeft := by
  rw [← blocked_iff_laneBlocked, holdLane, lane_get, Bool.and_eq_true, Bool.not_eq_true', Bool.not_eq_true,
    decide_eq_true_eq]

theorem mem_holdLanes_iff (k : Conditions) (u : BankUnit) (i : Nat) :
    i ∈ holdLanes k u ↔ i < u.desc.lanes ∧ holdLane k u i = true := by
  rw [holdLanes, List.mem_filter, List.mem_range]

theorem mem_contenders_iff (k : Conditions) (u : BankUnit) (c : Candidate) :
    c ∈ contenders k u ↔ c ∈ candidates k u ∧ conflictDrops k u c = false := by
  rw [contenders, List.mem_filter, Bool.not_eq_true']

/-- How many candidates of a list rank before one (R94). -/
def rankIn (q : List Candidate) (c : Candidate) : Nat := (q.filter fun d => d.before c).length

theorem granted_eq (k : Conditions) (u : BankUnit) :
    granted k u = ((contenders k u).filter (qualifies u)).filter fun c =>
      decide (rankIn ((contenders k u).filter (qualifies u)) c < capacity k u) := rfl

theorem mem_granted_iff (k : Conditions) (u : BankUnit) (c : Candidate) :
    c ∈ granted k u ↔ c ∈ contenders k u ∧ qualifies u c = true
      ∧ rankIn ((contenders k u).filter (qualifies u)) c < capacity k u := by
  rw [granted_eq, List.mem_filter, List.mem_filter, decide_eq_true_eq, and_assoc]

/-- Which lanes a composition turns on: the bank's hold lanes and the granted lanes (R91, R94). -/
theorem composeImage_lane_iff (k : Conditions) (u : BankUnit) (i : Fin 128) :
    (composeImage k u).getLsbD i.val = true ↔
      i.val < u.desc.lanes ∧ (holdLane k u i.val = true ∨ ∃ c ∈ granted k u, c.lane = i.val) := by
  unfold composeImage
  dsimp only
  rw [imageOf_lane, Bool.and_eq_true, decide_eq_true_eq, List.contains_iff_mem, List.mem_append, mem_holdLanes_iff,
    List.mem_map]
  exact and_congr_right fun hi => by rw [and_iff_right hi]

/-- A granted lane is a candidate, so it is not blocked (R90, R92, R94). -/
theorem not_blocked_of_mem_granted {k : Conditions} {u : BankUnit} {c : Candidate} (h : c ∈ granted k u) :
    blocked k u c.lane = false := by
  have hcandidate : c ∈ candidates k u :=
    List.mem_of_mem_filter (List.mem_of_mem_filter (List.mem_of_mem_filter h))
  obtain ⟨i, -, hi⟩ := (mem_candidates_iff k u c).1 hcandidate
  obtain ⟨rfl, hfree, -⟩ := candidate_some hi
  exact hfree

/-- A lane that a composition turns on is not blocked (R90). -/
theorem not_laneBlocked_of_on {k : Conditions} {u : BankUnit} {i : Fin 128}
    (hon : (composeImage k u).getLsbD i.val = true) : ¬ LaneBlocked k u u.lanes[i] := by
  rw [← blocked_iff_laneBlocked, Bool.not_eq_true]
  obtain ⟨-, hhold | ⟨c, hc, hlane⟩⟩ := (composeImage_lane_iff k u i).1 hon
  · rw [holdLane, Bool.and_eq_true, Bool.not_eq_true'] at hhold
    exact hhold.1
  · rw [← hlane]
    exact not_blocked_of_mem_granted hc

end Sys2Proof.Machine

/-! O11: images outside RUN and DRAIN, and the lane state within its values (R105, R89). -/

namespace Sys2Proof.Machine

/-! ## Images -/

/-- A bank in a mode that does not fire has an all-off composed image (R105). -/
def BankUnit.DarkUnlessFiring (u : BankUnit) : Prop := u.mode.firing = false → u.composed = 0

theorem imageInv_iff (s : State) : ImageInv s ↔ AllBanks BankUnit.DarkUnlessFiring s :=
  forall_congr' fun b => by
    rw [BankUnit.DarkUnlessFiring, ← Bool.not_eq_true, firing_iff, not_or, and_imp]

theorem BankUnit.DarkUnlessFiring.bankClosed : BankClosed DarkUnlessFiring where
  powerOn _ := rfl
  reset _ _ := rfl
  flush h := h
  mode m u h := by
    unfold takeMode
    dsimp only
    split
    · exact fun hm => absurd ‹m.firing = true› (by simpa using hm)
    · exact fun _ => clearComposed_composed _
  clearComposed _ _ := clearComposed_composed _
  latch _ _ h := h
  boundary k u _ := by
    intro hm
    rw [turnSlot, countHold_eq] at hm ⊢
    exact composeImage_of_notFiring (u := retireClosed k.p u) hm k
  disabled _ _ := by
    rw [countHold_eq]
  status d u h := by
    unfold takeStatus
    dsimp only
    split <;> exact h
  air _ _ _ h := h
  write _ h := h
  settle id priority p u _ h := by cases p <;> exact h
  clear h := h

/-! ## Lanes -/

/-- A lane's run and heat state are within the values of R89. -/
def Lane.InRange (l : Lane) : Prop := l.onRun ≤ 255 ∧ l.holdLeft ≤ 15 ∧ l.recoveryLeft ≤ 255 ∧ l.heat ≤ 65535

/-- A descriptor and the lanes are within their values (R64, R89). -/
def BankUnit.InRange (u : BankUnit) : Prop := u.desc.inRange = true ∧ ∀ i : Fin 128, u.lanes[i].InRange

theorem laneInv_iff (s : State) : LaneInv s ↔ AllBanks BankUnit.InRange s := by
  refine forall_congr' fun b => and_congr_right fun _ => ?_
  constructor
  · exact fun h i => h _ (by simp)
  · intro h l hl
    obtain ⟨i, hi, rfl⟩ := List.mem_iff_getElem.1 hl
    rw [Vector.length_toList] at hi
    exact h ⟨i, hi⟩

theorem Lane.inRange_rest : Lane.rest.InRange := ⟨by decide, by decide, by decide, by decide⟩

theorem Lane.InRange.nextThermal {l : Lane} (h : l.InRange) {d : BankEntry} (on : Bool) :
    (nextThermal d on l).InRange := by
  obtain ⟨hrun, hhold, hrecovery, hheat⟩ := h
  unfold Machine.nextThermal
  dsimp only
  split
  · refine ⟨hrun, hhold, hrecovery, ?_⟩
    show nextHeat d on l ≤ 65535
    unfold nextHeat
    split <;> omega
  · exact ⟨hrun, hhold, hrecovery, hheat⟩

/-- A lane that a composition turns on had not reached max_slots, so its run stays within max_slots (R90, R95). -/
theorem Lane.InRange.nextRun {l : Lane} (h : l.InRange) {d : BankEntry} (hd : d.inRange = true) {on : Bool} (was : Bool)
    (hon : on = true → l.onRun < d.maxSlots) : (nextRun d on was l).InRange := by
  obtain ⟨hrun, hhold, hrecovery, hheat⟩ := h
  obtain ⟨-, -, -, -, -, -, -, -, -, ⟨hmin1, hmin16⟩, ⟨hminmax, hmax⟩, hrec, -⟩ := (BankEntry.inRange_iff d).1 hd
  unfold Machine.nextRun
  dsimp only
  split
  · exact ⟨Nat.zero_le _, Nat.zero_le _, by dsimp only; omega, hheat⟩
  · have hlow := hon (by simpa using ‹¬(!on) = true›)
    refine ⟨?_, ?_, ?_, hheat⟩
    · show nextOnRun on was l ≤ 255
      unfold nextOnRun
      split <;> [skip; split] <;> omega
    · dsimp only
      split <;> omega
    · dsimp only
      split <;> omega

namespace BankUnit.InRange

theorem compose {u : BankUnit} (h : u.InRange) (k : Conditions) : (compose k u).InRange := by
  refine ⟨h.1, fun i => ?_⟩
  have hlane := h.2 i
  show (nextLanes u (composeImage k u))[i].InRange
  rw [nextLanes_get]
  split
  · refine (hlane.nextRun h.1 _ fun hon => ?_).nextThermal _
    exact Nat.not_le.1 fun hlong => not_laneBlocked_of_on hon (.inr (.inl hlong))
  · exact hlane

theorem clearComposed {u : BankUnit} (h : u.InRange) : (clearComposed u).InRange := by
  refine ⟨by simpa using h.1, fun i => ?_⟩
  obtain ⟨hrun, hhold, hrecovery, hheat⟩ := h.2 i
  rw [clearComposed_lane]
  split
  · exact ⟨Nat.zero_le _, Nat.zero_le _, hrecovery, hheat⟩
  · exact ⟨hrun, hhold, hrecovery, hheat⟩

theorem atRest {u : BankUnit} (hdesc : u.desc.inRange = true) (hlanes : u.lanes = Vector.replicate 128 .rest) :
    u.InRange := by
  refine ⟨hdesc, fun i => ?_⟩
  simpa [hlanes] using Lane.inRange_rest

theorem bankClosed : BankClosed InRange where
  powerOn := atRest (by decide) rfl
  reset h := atRest h.1 rfl
  flush h := h
  mode m u h := by
    unfold takeMode
    dsimp only
    split
    · exact h
    · exact clearComposed (u := { u with mode := m }) h
  clearComposed h := h.clearComposed
  latch _ _ h := h
  boundary k u h := by
    rw [turnSlot, countHold_eq]
    exact compose (u := retireClosed k.p u) h k
  disabled h := by
    rw [countHold_eq]
    exact h
  status d u h := by
    unfold takeStatus
    dsimp only
    split <;> exact h
  air _ _ _ h := h
  write he h := ⟨he, h.2⟩
  settle id priority p u _ h := by cases p <;> exact h
  clear h := h

end BankUnit.InRange

/-- Settles O11: each relation is one of a single Bank Unit, and everything that a step does to one keeps it. -/
theorem stepKeepsImagesAndLanes : Obligations.StepKeepsImagesAndLanes := by
  refine ⟨fun s t h hs => ?_, fun s t h hs => ?_⟩
  · rw [imageInv_iff] at h ⊢
    exact BankUnit.DarkUnlessFiring.bankClosed.step_keeps h hs
  · rw [laneInv_iff] at h ⊢
    exact BankUnit.InRange.bankClosed.step_keeps h hs

end Sys2Proof.Machine

/-! O39, O30: a change of mode at a bank, and what a boundary latches, sends and leaves alone (R82, R83, R88, R101, R105,
R163). -/

namespace Sys2Proof.Machine

/-! ## What a bank's own steps leave alone -/

theorem SameOutsideBank.trans {b : BankIx} {s t u : State} (h : SameOutsideBank b s t) (g : SameOutsideBank b t u) :
    SameOutsideBank b s u := by
  obtain ⟨hpending, hreset, hnode, hstopn, hpos, hintake, hcls, htrack, hstation, hmc, hproving, hlinkU, hreturn, hrelayU,
    hlinkD, hunknown, hrelayD, hqueue, hline, hmask, hsoft, hhanded, hbanks⟩ := h
  obtain ⟨gpending, greset, gnode, gstopn, gpos, gintake, gcls, gtrack, gstation, gmc, gproving, glinkU, greturn, grelayU,
    glinkD, gunknown, grelayD, gqueue, gline, gmask, gsoft, ghanded, gbanks⟩ := g
  exact ⟨gpending.trans hpending, greset.trans hreset, gnode.trans hnode, gstopn.trans hstopn, gpos.trans hpos,
    gintake.trans hintake, gcls.trans hcls, gtrack.trans htrack, gstation.trans hstation, gmc.trans hmc,
    gproving.trans hproving, glinkU.trans hlinkU, hreturn.trans greturn, grelayU.trans hrelayU, glinkD.trans hlinkD,
    gunknown.trans hunknown, grelayD.trans hrelayD, gqueue.trans hqueue, gline.trans hline, gmask.trans hmask,
    gsoft.trans hsoft, by rw [ghanded, hhanded],
    fun c hc => ⟨(gbanks c hc).1.trans (hbanks c hc).1, (gbanks c hc).2.trans (hbanks c hc).2⟩⟩

theorem sameOutsideBank_setBankHanded (b : BankIx) (s : State) (g : BankHanded) :
    SameOutsideBank b s (s.setBankHanded b g) := by
  have h := sameOutsideBank_set b s g ((s.setBankHanded b g).bank b)
  rwa [State.setBank_bank] at h

theorem sameOutsideBank_setBank (b : BankIx) (s : State) (u : BankUnit) : SameOutsideBank b s (s.setBank b u) := by
  have h := sameOutsideBank_set b s (s.bankHanded b) u
  rwa [State.setBankHanded_bankHanded] at h

theorem sameOutsideBank_handFire (b : BankIx) (n : BitVec 8) (s : State) : SameOutsideBank b s (handFire b n s) := by
  simp [SameOutsideBank, State.returnFrames]

theorem sameOutsideBank_raise (b : BankIx) (fs : List EventFlag) (s : State) : SameOutsideBank b s (raise fs s) := by
  simp [SameOutsideBank, (raise_return fs s).1]

/-! ## BANK_MODE_CHANGE -/

theorem takeMode_firing {m : Mode} (hm : m.firing = true) (u : BankUnit) : takeMode m u = { u with mode := m } := by
  simp [takeMode, hm]

theorem exec_bankModeChange {s : State} {b : BankIx} {m : Mode} {rest : List Mode} (hrun : s.inReset = false)
    (hm : (s.bankHanded b).modes = m :: rest) :
    exec (.bankModeChange b) s = .next
      ((s.setBankHanded b { s.bankHanded b with modes := rest }).setBank b (takeMode m (s.bank b))) := by
  simp only [exec, execBankModeChange, whenRunning_running _ hrun, hm, State.setBank_setBankHanded]

/-- Settles O39: `takeMode` keeps the images in the modes that fire, and is `clearComposed` in the others. -/
theorem modeEntryClearsTheComposedImage : Obligations.ModeEntryClearsTheComposedImage := by
  intro s b m rest hrun hm
  refine ⟨_, exec_bankModeChange hrun hm, by simp, rfl, rfl, rfl, sameOutsideBank_set _ _ _ _, fun hfires => ?_,
    fun hnotRun hnotDrain => ?_⟩
  · rw [State.bank_setBank_self, takeMode_firing ((firing_iff m).2 hfires)]
  · have hdark : m.firing = false := by
      rw [← Bool.not_eq_true, firing_iff]
      exact not_or.2 ⟨hnotRun, hnotDrain⟩
    rw [State.bank_setBank_self, takeMode_notFiring hdark]
    obtain ⟨hdesc, hmode, hwindows, hlatched, hair, hreport, hend, hinhibit, hcounters⟩ :=
      clearComposed_frame { s.bank b with mode := m }
    exact ⟨hmode, clearComposed_composed _, hlatched, hwindows, hcounters, hdesc, hinhibit, hair, hreport, hend,
      clearComposed_lane _⟩

/-! ## A boundary at a bank in use -/

theorem handFire_notLinked {s : State} (h : (s.link .d).state ≠ .linked) (b : BankIx) (n : BitVec 8) :
    handFire b n s = s :=
  if_neg (by simp only [State.linked, h, decide_false]; exact Bool.false_ne_true)

/-- The bank as a boundary hands its frame to the arbiter: the composed image latched. -/
def State.latching (s : State) (b : BankIx) : State := s.setBank b { s.bank b with latched := (s.bank b).composed }

theorem State.latching_bank (s : State) (b : BankIx) :
    (s.latching b).bank b = { s.bank b with latched := (s.bank b).composed } := State.bank_setBank_self s b _

theorem boundaryInUse_portD (b : BankIx) (n : BitVec 8) (s : State) :
    (boundaryInUse b n s).portD = (handFire b n (s.latching b)).portD := by
  unfold boundaryInUse
  dsimp only
  split <;> simp [State.latching]

theorem sameOutsideBank_boundaryInUse (b : BankIx) (n : BitVec 8) (s : State) :
    SameOutsideBank b s (boundaryInUse b n s) := by
  have hsent := (sameOutsideBank_setBank b s _).trans (sameOutsideBank_handFire b n (s.latching b))
  unfold boundaryInUse
  dsimp only
  split
  · exact (hsent.trans (sameOutsideBank_setBank b _ _)).trans (sameOutsideBank_setBankHanded b _ _)
  · exact ((hsent.trans (sameOutsideBank_setBank b _ _)).trans (sameOutsideBank_setBankHanded b _ _)).trans
      (sameOutsideBank_raise b _ _)

theorem exec_slotBoundary_bank {s : State} (hrun : s.inReset = false) (b : BankIx) :
    exec (.slotBoundary (.bank b)) s = .next (bankBoundary b s) := whenRunning_running _ hrun

section
variable {s : State} {b : BankIx} {n : BitVec 8} {rest : List (BitVec 8)}
  (hk : (s.bank b).desc.kind ≠ .disabled) (hn : (s.bankHanded b).boundaries = n :: rest)
include hk hn

theorem sameOutsideBank_bankBoundary : SameOutsideBank b s (bankBoundary b s) := by
  rw [bankBoundary_inUse hk hn]
  exact (sameOutsideBank_setBankHanded b s _).trans (sameOutsideBank_boundaryInUse b n _)

/-- The reports of a bank after a boundary: this one taken, an item id for each window that closed (R84). -/
theorem bankBoundary_inUse_bankHanded :
    (bankBoundary b s).bankHanded b =
      { s.bankHanded b with
        boundaries := rest
        retired := (s.bankHanded b).retired
          ++ ((s.bank b).windows.filter fun w => w.closed s.atBoundary.p).map (·.item) } := by
  rw [bankBoundary_inUse hk hn, boundaryInUse_bankHanded, State.bankHanded_setBankHanded_self,
    State.bank_setBankHanded]
  rfl

/-- The FIRE frame of a boundary on a busy lane waits (R83, R163). -/
theorem bankBoundary_portD_busy (hlinked : (s.link .d).state = .linked) (hbusy : s.portD.tx ≠ none) :
    (bankBoundary b s).portD = { s.portD with
      fire := s.portD.fire.set b (some (fireFrame (s.bank b).desc.node n (s.bank b).desc.lanes (s.bank b).composed))
      fireOverruns := if s.portD.fire[b].isSome then satInc s.portD.fireOverruns else s.portD.fireOverruns } := by
  rw [bankBoundary_inUse hk hn, boundaryInUse_portD]
  refine (congrArg State.portD (handFire_busy (s := (s.setBankHanded b _).latching b) n b hlinked hbusy)).trans ?_
  rw [State.latching_bank]
  rfl

/-- The FIRE frame of a boundary goes on a free lane for which nothing waits (R83, R163). -/
theorem bankBoundary_portD_free (hlinked : (s.link .d).state = .linked) (hidle : s.forwardIdle) :
    (bankBoundary b s).portD = { s.portD with
      tx := some (.own (fireFrame (s.bank b).desc.node n (s.bank b).desc.lanes (s.bank b).composed)) } := by
  obtain ⟨hfree, hfire, -, -⟩ := hidle
  rw [bankBoundary_inUse hk hn, boundaryInUse_portD]
  refine (congrArg State.portD (handFire_free (s := (s.setBankHanded b _).latching b) n b hlinked hfree hfire)).trans ?_
  rw [State.latching_bank]
  rfl

theorem bankBoundary_portD_notLinked (hlink : (s.link .d).state ≠ .linked) : (bankBoundary b s).portD = s.portD := by
  rw [bankBoundary_inUse hk hn, boundaryInUse_portD]
  exact (congrArg State.portD (handFire_notLinked (s := (s.setBankHanded b _).latching b) hlink b n)).trans rfl

end

/-- Settles O30: the bank by `bankBoundary_inUse_bank`, the frame by what `handFire` does with a busy and a free lane. -/
theorem boundaryLatchesAndSends : Obligations.BoundaryLatchesAndSends := by
  intro s b n rest hrun hk hn
  refine ⟨_, exec_slotBoundary_bank hrun b, ?_⟩
  rw [bankBoundary_inUse_bank hk hn, bankBoundary_inUse_bankHanded hk hn, countHold_eq]
  exact ⟨rfl, rfl, rfl, rfl, rfl, rfl, rfl, rfl, rfl, rfl, rfl, sameOutsideBank_bankBoundary hk hn,
    bankBoundary_portD_busy hk hn, bankBoundary_portD_free hk hn, bankBoundary_portD_notLinked hk hn⟩

end Sys2Proof.Machine

/-! O31: the windows that close at a boundary, counted by outcome (R84 to R86, R111). -/

namespace Sys2Proof.Machine

/-! ## Outcomes of a window -/

theorem one_le_toNat_iff {w : Nat} (x : BitVec w) : 1 ≤ x.toNat ↔ x ≠ 0 := by
  rw [Nat.one_le_iff_ne_zero, ne_eq, ne_eq, ← BitVec.toNat_inj]
  exact Iff.rfl

theorem Window.outcome_eject {w : Window} (hk : w.kind = .eject) : w.outcome =
    if w.due ≠ 0 ∧ w.full = w.due then .fired
    else if w.any ≠ 0 then .partialServed
    else if w.protectDenied then .suppressed
    else .missed := by
  rw [Window.outcome, hk]

theorem Window.outcome_protect {w : Window} (hk : w.kind = .protect) :
    w.outcome = if w.any = 0 then .kept else .breached := by
  rw [Window.outcome, hk]

/-- When a window retires under an outcome at a boundary (R85, R86); under ABANDONED it does not. -/
def Outcome.Meets (w : Window) : Outcome → Prop
  | .fired => w.kind = .eject ∧ 1 ≤ w.due.toNat ∧ w.full = w.due
  | .partialServed => w.kind = .eject ∧ ¬ (1 ≤ w.due.toNat ∧ w.full = w.due) ∧ 1 ≤ w.any.toNat
  | .suppressed => w.kind = .eject ∧ ¬ (1 ≤ w.due.toNat ∧ w.full = w.due) ∧ w.any = 0 ∧ w.protectDenied = true
  | .missed => w.kind = .eject ∧ ¬ (1 ≤ w.due.toNat ∧ w.full = w.due) ∧ w.any = 0 ∧ w.protectDenied = false
  | .kept => w.kind = .protect ∧ w.any = 0
  | .breached => w.kind = .protect ∧ 1 ≤ w.any.toNat
  | .abandoned => False

theorem Window.outcome_eq_iff (w : Window) (o : Outcome) : w.outcome = o ↔ o.Meets w := by
  cases o <;> simp only [Outcome.Meets, one_le_toNat_iff]
  all_goals
    cases hk : w.kind with
    | eject =>
      rw [Window.outcome_eject hk]
      split_ifs with hfull hany hdenied <;> simp_all
    | protect =>
      rw [Window.outcome_protect hk]
      split_ifs with hany <;> simp_all

/-! ## Counting closed windows -/

theorem Outcome.place_injective : Function.Injective Outcome.place := by
  intro a b
  cases a <;> cases b <;> decide

/-- The counter of an outcome, after the windows of a list have been counted. -/
theorem foldl_countOutcome_toNat {o : Outcome} {P : Window → Prop} [DecidablePred P]
    (hP : ∀ w : Window, w.outcome = o ↔ P w) (ws : List Window) (c : BankCounters) :
    ((ws.foldl (fun c w => c.countOutcome w.outcome) c).balance[o.place]).toNat =
      min (c.balance[o.place].toNat + (ws.filter fun w => decide (P w)).length) 4294967295 := by
  induction ws generalizing c with
  | nil =>
    have hlow := c.balance[o.place].isLt
    simp only [List.foldl_nil, List.filter_nil, List.length_nil]
    omega
  | cons w ws ih =>
    rw [List.foldl_cons, ih, List.filter_cons]
    by_cases hw : w.outcome = o
    · have hcounted : (c.countOutcome w.outcome).balance[o.place] = satInc c.balance[o.place] := by
        simp [BankCounters.balance_countOutcome, hw]
      rw [hcounted, satInc_toNat, if_pos (decide_eq_true ((hP w).1 hw)), List.length_cons]
      omega
    · have hkept : (c.countOutcome w.outcome).balance[o.place] = c.balance[o.place] := by
        have hplace : w.outcome.place.val ≠ o.place.val := fun h => hw (Outcome.place_injective (Fin.ext h))
        simp [BankCounters.balance_countOutcome, List.getElem_set_ne hplace]
      rw [hkept, if_neg (by simpa [← hP] using hw)]

/-- A counter that the outcomes of windows leave alone. -/
theorem foldl_countOutcome_other {f : BankCounters → Counter}
    (hf : ∀ c o, o ≠ .abandoned → f (c.countOutcome o) = f c) (ws : List Window) (c : BankCounters) :
    f (ws.foldl (fun c w => c.countOutcome w.outcome) c) = f c := by
  induction ws generalizing c with
  | nil => rfl
  | cons w ws ih => rw [List.foldl_cons, ih, hf _ _ fun h => (w.outcome_eq_iff _).1 h]

/-- The counters that the outcomes of windows leave alone. -/
theorem foldl_countOutcome_frame (ws : List Window) (c : BankCounters) :
    let d := ws.foldl (fun c w => c.countOutcome w.outcome) c
    d.created = c.created ∧ d.uncovered = c.uncovered ∧ d.late = c.late ∧ d.dropped = c.dropped
      ∧ d.abandoned = c.abandoned ∧ d.airLow = c.airLow := by
  refine ⟨foldl_countOutcome_other (f := (·.created)) ?_ ws c, foldl_countOutcome_other (f := (·.uncovered)) ?_ ws c,
    foldl_countOutcome_other (f := (·.late)) ?_ ws c, foldl_countOutcome_other (f := (·.dropped)) ?_ ws c,
    foldl_countOutcome_other (f := (·.abandoned)) ?_ ws c, foldl_countOutcome_other (f := (·.airLow)) ?_ ws c⟩
  all_goals
    intro c o ho
    cases o <;> simp_all [BankCounters.countOutcome]

/-- The counters of a bank after a boundary, but for the two that the composition counts: the closed windows counted by
outcome (R84). -/
theorem bankBoundary_counters {s : State} {b : BankIx} {n : BitVec 8} {rest : List (BitVec 8)}
    (hk : (s.bank b).desc.kind ≠ .disabled) (hn : (s.bankHanded b).boundaries = n :: rest) :
    ((bankBoundary b s).bank b).counters =
      { ((s.bank b).windows.filter fun w => w.closed s.atBoundary.p).foldl (fun c w => c.countOutcome w.outcome)
          (s.bank b).counters with
        budgetDenied := ((bankBoundary b s).bank b).counters.budgetDenied
        coilTrips := ((bankBoundary b s).bank b).counters.coilTrips } := by
  rw [bankBoundary_inUse_bank hk hn, countHold_eq]
  rfl

/-- Settles O31: the list keeps the windows of `State.composing`, and each outcome counts its part of those that closed. -/
theorem boundaryRetiresClosedWindows : Obligations.BoundaryRetiresClosedWindows := by
  rintro s b n rest closed hrun hk hn rfl
  refine ⟨_, exec_slotBoundary_bank hrun b, ?_, by rw [bankBoundary_inUse_bankHanded hk hn]; rfl, ?_⟩
  · rw [bankBoundary_inUse_bank hk hn, countHold_eq]
    refine Eq.trans ?_ (congrArg (List.map (·.item)) (State.composing_windows s b))
    exact List.map_map.trans (List.map_congr_left fun w _ => nextWindow_item ..)
  · rw [bankBoundary_counters hk hn]
    have hcount (o : Outcome) {P : Window → Prop} [DecidablePred P] (hP : ∀ w : Window, w.outcome = o ↔ P w) :=
      foldl_countOutcome_toNat hP ((s.bank b).windows.filter fun w => w.closed s.atBoundary.p) (s.bank b).counters
    exact ⟨hcount .fired (·.outcome_eq_iff _), hcount .partialServed (·.outcome_eq_iff _),
      hcount .suppressed (·.outcome_eq_iff _), hcount .missed (·.outcome_eq_iff _), hcount .kept (·.outcome_eq_iff _),
      hcount .breached (·.outcome_eq_iff _), foldl_countOutcome_frame _ _⟩

end Sys2Proof.Machine

/-! O33: the lanes that a boundary turns on (R90 to R92). -/

namespace Sys2Proof.Machine

/-! ## The image of a boundary -/

/-- The image after a boundary (R82). -/
theorem bankBoundary_composed {s : State} {b : BankIx} {n : BitVec 8} {rest : List (BitVec 8)}
    (hk : (s.bank b).desc.kind ≠ .disabled) (hn : (s.bankHanded b).boundaries = n :: rest) :
    ((bankBoundary b s).bank b).composed = composeImage s.atBoundary (s.composing b) := by
  rw [bankBoundary_inUse_bank hk hn, countHold_eq]
  rfl

theorem atBoundary_linked_eq_false_iff (s : State) : s.atBoundary.linked = false ↔ (s.link .d).state ≠ .linked :=
  decide_eq_false_iff_not

theorem atBoundary_stalled_eq_false_iff (s : State) : s.atBoundary.stalled = false ↔ s.pos.stall ≠ .stalled :=
  decide_eq_false_iff_not

/-- A lane that is ON after a boundary and was not in hold is asked for, on a moving belt (R92). -/
theorem asked_of_on_of_not_hold {s : State} {b : BankIx} {i : Fin 128}
    (hon : (composeImage s.atBoundary (s.composing b)).getLsbD i.val = true) (hhold : (s.bank b).lanes[i].holdLeft = 0) :
    s.pos.stall ≠ .stalled ∧ ∃ w ∈ (s.bank b).windows, w.Asks s.atBoundary i.val := by
  obtain ⟨-, hheld | ⟨c, hc, hlane⟩⟩ := (composeImage_lane_iff _ _ i).1 hon
  · have hleft : 0 < (s.bank b).lanes[i].holdLeft := ((holdLane_iff _ (s.composing b) i).1 hheld).2
    omega
  · have hcandidate := ((mem_contenders_iff _ _ c).1 ((mem_granted_iff _ _ c).1 hc).1).1
    obtain ⟨j, -, hj⟩ := (mem_candidates_iff _ _ c).1 hcandidate
    obtain rfl : j = i.val := (candidate_some hj).1.symm.trans hlane
    obtain ⟨⟨-, -, hmoving, hasked⟩, -⟩ := (candidate?_eq_some_iff _ _ i c).1 hj
    exact ⟨(atBoundary_stalled_eq_false_iff s).1 hmoving,
      (exists_mem_composing_iff s b fun _ ⟨_, _, hopen, _⟩ => hopen).1 hasked⟩

/-- Settles O33: each clause by `composeImage_lane_iff`. -/
theorem blockedLanesOffAndHoldLanesOn : Obligations.BlockedLanesOffAndHoldLanesOn := by
  rintro s b n rest p hrun hk hn rfl
  refine ⟨_, exec_slotBoundary_bank hrun b, fun i isBlocked hblocked => ?_⟩
  rw [← atBoundary_linked_eq_false_iff] at hblocked
  replace hblocked : isBlocked ↔ LaneBlocked s.atBoundary (s.composing b) (s.composing b).lanes[i] := hblocked
  rw [bankBoundary_composed hk hn, hblocked]
  refine ⟨fun habove => ?_, fun h => ?_, fun hi hfree hhold => ?_, fun hhold hidle => ?_⟩
  · by_contra hon
    have hi := ((composeImage_lane_iff _ _ i).1 (Bool.not_eq_false _ ▸ hon)).1
    exact Nat.not_lt.2 habove hi
  · by_contra hon
    exact not_laneBlocked_of_on (Bool.not_eq_false _ ▸ hon) h
  · exact (composeImage_lane_iff _ _ i).2 ⟨hi, .inl ((holdLane_iff _ _ i).2 ⟨hfree, hhold⟩)⟩
  · by_contra hon
    obtain ⟨hmoving, w, hw, hasks⟩ := asked_of_on_of_not_hold (Bool.not_eq_false _ ▸ hon) hhold
    exact hidle.elim hmoving fun hnone => hnone w hw hasks

end Sys2Proof.Machine

/-! O34: the ranking of candidates, and the bound on the lanes ON (R90, R91, R94). -/

namespace Sys2Proof.Machine

/-! ## The ranking of candidates -/

/-- The ranking keys in turn (R94). -/
theorem Candidate.before_iff (d c : Candidate) : d.before c = true ↔
    (d.wasOn = true ∧ c.wasOn = false)
      ∨ (d.wasOn = c.wasOn ∧ (c.priority < d.priority
        ∨ (c.priority = d.priority ∧ (d.first < c.first ∨ (d.first = c.first ∧ d.lane < c.lane))))) := by
  unfold Candidate.before
  by_cases hon : d.wasOn = c.wasOn
  · by_cases hpriority : d.priority = c.priority
    · by_cases hfirst : d.first = c.first <;> simp [hon, hpriority, hfirst]
    · simp [hon, hpriority, Ne.symm hpriority]
  · cases hd : d.wasOn <;> cases hc : c.wasOn <;> simp_all

theorem Candidate.not_before_self (c : Candidate) : c.before c = false := by
  rw [← Bool.not_eq_true, Candidate.before_iff]
  cases c.wasOn <;> simp

theorem Candidate.before_trans {c d e : Candidate} (hcd : c.before d = true) (hde : d.before e = true) :
    c.before e = true := by
  rw [Candidate.before_iff] at hcd hde ⊢
  obtain ⟨hc, hd⟩ | ⟨hcd, hkeys⟩ := hcd
  · obtain ⟨hd', -⟩ | ⟨hde, -⟩ := hde
    · exact absurd (hd'.symm.trans hd) Bool.noConfusion
    · exact .inl ⟨hc, hde.symm.trans hd⟩
  · obtain ⟨hd, he⟩ | ⟨hde, hkeys'⟩ := hde
    · exact .inl ⟨hcd.trans hd, he⟩
    · exact .inr ⟨hcd.trans hde, by omega⟩

theorem Candidate.before_total {c d : Candidate} (h : c.lane ≠ d.lane) : c.before d = true ∨ d.before c = true := by
  rw [Candidate.before_iff, Candidate.before_iff]
  by_cases hon : c.wasOn = d.wasOn
  · have hkeys : (d.priority < c.priority ∨ (d.priority = c.priority ∧ (c.first < d.first
          ∨ (c.first = d.first ∧ c.lane < d.lane))))
        ∨ (c.priority < d.priority ∨ (c.priority = d.priority ∧ (d.first < c.first
          ∨ (d.first = c.first ∧ d.lane < c.lane)))) := by omega
    exact hkeys.imp (fun hc => .inr ⟨hon, hc⟩) fun hd => .inr ⟨hon.symm, hd⟩
  · cases hc : c.wasOn with
    | true => exact .inl (.inl ⟨rfl, Bool.eq_false_of_not_eq_true fun hd => hon (hc.trans hd.symm)⟩)
    | false => exact .inr (.inl ⟨Bool.eq_true_of_not_eq_false fun hd => hon (hc.trans hd.symm), rfl⟩)

theorem rankIn_lt_of_before {q : List Candidate} {c d : Candidate} (hc : c ∈ q) (h : c.before d = true) :
    rankIn q c < rankIn q d := by
  have hsub : (q.filter fun e => e.before c).Sublist (q.filter fun e => e.before d) :=
    List.monotone_filter_right q fun e he => Candidate.before_trans he h
  refine lt_of_le_of_ne hsub.length_le fun hlength => ?_
  have hmem : c ∈ q.filter fun e => e.before c := by
    rw [hsub.eq_of_length hlength]
    exact List.mem_filter.2 ⟨hc, h⟩
  have hself := (List.mem_filter.1 hmem).2
  rw [Candidate.not_before_self] at hself
  exact Bool.false_ne_true hself

/-- No more candidates than its capacity are among the first of a ranking. -/
theorem length_filter_rankIn_lt_le {q : List Candidate} (hlanes : q.Pairwise fun c d => c.lane < d.lane) (cap : Nat) :
    (q.filter fun c => decide (rankIn q c < cap)).length ≤ cap := by
  have hranks : ((q.filter fun c => decide (rankIn q c < cap)).map (rankIn q)).Nodup := by
    rw [List.Nodup, List.pairwise_map]
    refine (hlanes.filter _).imp_of_mem fun {c d} hc hd hlane => ?_
    replace hc := List.mem_of_mem_filter hc
    replace hd := List.mem_of_mem_filter hd
    obtain h | h := Candidate.before_total hlane.ne
    · exact (rankIn_lt_of_before hc h).ne
    · exact (rankIn_lt_of_before hd h).ne'
  have hbelow : ((q.filter fun c => decide (rankIn q c < cap)).map (rankIn q)) ⊆ List.range cap := by
    intro r hr
    obtain ⟨c, hc, rfl⟩ := List.mem_map.1 hr
    exact List.mem_range.2 (of_decide_eq_true (List.mem_filter.1 hc).2)
  simpa using (hranks.subperm hbelow).length_le

/-- Each lane is one candidate at most (R92). -/
theorem candidates_pairwise_lane (k : Conditions) (u : BankUnit) :
    (candidates k u).Pairwise fun c d => c.lane < d.lane := by
  refine List.pairwise_filterMap.2 (List.pairwise_lt_range.imp fun {i j} hij c hc d hd => ?_)
  rw [(candidate_some hc).1, (candidate_some hd).1]
  exact hij

/-- No more lanes are granted than the capacity (R94). -/
theorem granted_length_le (k : Conditions) (u : BankUnit) : (granted k u).length ≤ capacity k u :=
  length_filter_rankIn_lt_le (((candidates_pairwise_lane k u).filter _).filter _) _

/-! ## How many lanes are ON -/

theorem lanesOn_le (k : Conditions) (u : BankUnit) :
    lanesOn (composeImage k u) ≤ (holdLanes k u).length + (granted k u).length := by
  have hon : ((List.range 128).filter fun i => (composeImage k u).getLsbD i) ⊆
      holdLanes k u ++ (granted k u).map (·.lane) := by
    intro i hi
    obtain ⟨hlane, hon⟩ := List.mem_filter.1 hi
    obtain ⟨hlow, hhold | ⟨c, hc, rfl⟩⟩ := (composeImage_lane_iff k u ⟨i, List.mem_range.1 hlane⟩).1 hon
    · exact List.mem_append_left _ ((mem_holdLanes_iff k u i).2 ⟨hlow, hhold⟩)
    · exact List.mem_append_right _ (List.mem_map_of_mem hc)
  simpa [lanesOn] using ((List.nodup_range.filter _).subperm hon).length_le

/-- The lanes ON are the hold lanes, and no more of the others than the budget leaves room for (R91, R94). -/
theorem lanesOn_le_max (k : Conditions) (u : BankUnit) :
    lanesOn (composeImage k u) ≤ max (effectiveBudget k u) (holdLanes k u).length := by
  have hall := lanesOn_le k u
  have hgranted := granted_length_le k u
  unfold capacity at hgranted
  omega

theorem lanesOn_eq_zero_of_not_linked {k : Conditions} (hlink : k.linked = false) (u : BankUnit) :
    lanesOn (composeImage k u) = 0 := by
  rw [lanesOn, List.length_eq_zero_iff, List.filter_eq_nil_iff]
  intro i hi hon
  exact not_laneBlocked_of_on (i := ⟨i, List.mem_range.1 hi⟩) hon (.inr (.inr (.inr (.inr (.inr hlink)))))

theorem effectiveBudget_le (k : Conditions) (u : BankUnit) :
    effectiveBudget k u ≤ if u.desc.kind = .air ∧ 0 < u.airLow then u.desc.reserveBudget else u.desc.budget := by
  unfold effectiveBudget
  split
  · exact Nat.zero_le _
  · simp [BankUnit.onReserve]

/-- A hold lane is not COOLING: a COOLING lane of a COIL bank is blocked (R90, R91). -/
theorem holdLanes_length_le (k : Conditions) (u : BankUnit) :
    (holdLanes k u).length ≤ ((List.range u.desc.lanes).filter fun i =>
      decide (0 < (u.lane i).holdLeft)
        && !(decide (u.desc.kind = .coil) && decide ((u.lane i).thermal = .cooling))).length := by
  refine (List.monotone_filter_right _ fun i hi => ?_).length_le
  obtain ⟨hfree, hhold⟩ := Bool.and_eq_true_iff.1 hi
  have hcool : ¬ (u.desc.kind = .coil ∧ (u.lane i).thermal = .cooling) := fun hcool => by
    rw [(blocked_iff k u i).2 (.inr (.inr (.inl hcool)))] at hfree
    exact Bool.false_ne_true hfree
  rw [hhold, Bool.true_and, Bool.not_eq_true', ← Bool.decide_and]
  exact decide_eq_false hcool

/-- Settles O34: the hold lanes, and the granted lanes within the capacity that they leave. -/
theorem lanesOnStayWithinTheBudget : Obligations.LanesOnStayWithinTheBudget := by
  intro s b n rest hrun hk hn
  refine ⟨_, exec_slotBoundary_bank hrun b, ?_⟩
  rw [bankBoundary_composed hk hn]
  refine ⟨fun hlink => lanesOn_eq_zero_of_not_linked ((atBoundary_linked_eq_false_iff s).2 hlink) _, ?_⟩
  exact (lanesOn_le_max _ _).trans
    (max_le_max (effectiveBudget_le _ (s.composing b)) (holdLanes_length_le _ (s.composing b)))

end Sys2Proof.Machine

/-! O35: the candidates of a composition, their ranking, and the denials counted (R90 to R94, R111). -/

namespace Sys2Proof.Machine

/-! ## What a candidate is ranked by -/

theorem candidate?_isSome_iff (k : Conditions) (u : BankUnit) (i : Fin 128) :
    (candidate? k u i.val).isSome = true ↔ ¬ LaneBlocked k u u.lanes[i] ∧ u.lanes[i].holdLeft = 0
      ∧ k.stalled = false ∧ ∃ w ∈ u.windows, w.Asks k i.val := by
  simp only [Option.isSome_iff_exists, candidate?_eq_some_iff, exists_and_left, exists_eq', and_true]

theorem exists_eq_topPriority {ws : List Window} (h : ws ≠ []) : ∃ w ∈ ws, w.priority = topPriority ws := by
  have hle (w : Window) (hw : w ∈ ws) : w.priority ≤ topPriority ws := (le_topPriority _ _).2 (.inr ⟨w, hw, le_rfl⟩)
  obtain hzero | ⟨w, hw, htop⟩ := (le_topPriority ws (topPriority ws)).1 le_rfl
  · obtain ⟨w, hw⟩ := List.exists_mem_of_ne_nil ws h
    exact ⟨w, hw, by have := hle w hw; omega⟩
  · exact ⟨w, hw, Nat.le_antisymm (hle w hw) htop⟩

/-- A list that meets a test, split at the first place where it does. -/
theorem exists_split_findIdx {α : Type} {p : α → Bool} {xs : List α} (h : ∃ x ∈ xs, p x = true) :
    ∃ before x after, xs = before ++ x :: after ∧ before.length = xs.findIdx p ∧ p x = true
      ∧ ∀ y ∈ before, p y = false := by
  have hlt : xs.findIdx p < xs.length := List.findIdx_lt_length_of_exists h
  refine ⟨xs.take (xs.findIdx p), xs[xs.findIdx p], xs.drop (xs.findIdx p + 1), ?_, ?_, List.findIdx_getElem,
    fun y hy => ?_⟩
  · rw [← List.drop_eq_getElem_cons, List.take_append_drop]
  · rw [List.length_take, Nat.min_eq_left hlt.le]
  · obtain ⟨j, hj, rfl⟩ := List.mem_take_iff_getElem.1 hy
    exact List.not_of_lt_findIdx (by omega)

/-- The values a candidate is ranked by: ON in the slot now beginning, the highest priority of the windows that ask for its
lane, the place of the first of them (R92, R94). -/
theorem candidate?_some {k : Conditions} {u : BankUnit} {i : Fin 128} {c : Candidate}
    (h : candidate? k u i.val = some c) :
    c.lane = i.val ∧ c.wasOn = u.latched.getLsbD i.val
      ∧ (∃ w ∈ u.windows, w.Asks k i.val ∧ w.priority = c.priority)
      ∧ (∀ w ∈ u.windows, w.Asks k i.val → w.priority ≤ c.priority)
      ∧ ∃ before w after, u.windows = before ++ w :: after ∧ before.length = c.first ∧ w.Asks k i.val
        ∧ ∀ x ∈ before, ¬ x.Asks k i.val := by
  obtain ⟨⟨-, -, -, hasked⟩, rfl⟩ := (candidate?_eq_some_iff k u i c).1 h
  simp only [← ejectAsks_iff, true_and] at hasked ⊢
  refine ⟨rfl, ?_, fun w hw hasks => ?_, ?_⟩
  · have hsome : u.windows.filter (ejectAsks k i) ≠ [] := by
      obtain ⟨w, hw, hasks⟩ := hasked
      exact List.ne_nil_of_mem (List.mem_filter.2 ⟨hw, hasks⟩)
    obtain ⟨w, hw, htop⟩ := exists_eq_topPriority hsome
    obtain ⟨hmem, hasks⟩ := List.mem_filter.1 hw
    exact ⟨w, hmem, hasks, htop⟩
  · exact (le_topPriority _ _).2 (.inr ⟨w, List.mem_filter.2 ⟨hw, hasks⟩, le_rfl⟩)
  · simpa only [Bool.not_eq_true] using exists_split_findIdx hasked

/-! ## Which contenders are ON -/

/-- When a candidate remains after conflicts (R93). -/
theorem conflictDrops_eq_true_iff (k : Conditions) (u : BankUnit) (c : Candidate) :
    conflictDrops k u c = true ↔ (∃ g ∈ u.windows, g.Guards k c.lane)
      ∧ (u.desc.conflict = .protectFirst
        ∨ (u.desc.conflict = .byPriority ∧ ∃ g ∈ u.windows, g.Guards k c.lane ∧ c.priority ≤ g.priority)) := by
  unfold conflictDrops
  simp only [Bool.and_eq_true, List.any_eq_true, protectCovers_iff]
  refine and_congr_right fun ⟨g, hg, hguards⟩ => ?_
  cases u.desc.conflict with
  | protectFirst => simp
  | ejectFirst => simp
  | byPriority =>
    simp only [decide_eq_true_eq, le_topPriority, List.mem_filter, protectCovers_iff, and_assoc]
    simp only [reduceCtorEq, false_or, true_and, or_iff_right_iff_imp]
    exact fun hzero => ⟨g, hg, hguards, by omega⟩

theorem mem_contenders_iff_exists (k : Conditions) (u : BankUnit) (c : Candidate) :
    c ∈ contenders k u ↔ ∃ i, i < u.desc.lanes ∧ candidate? k u i = some c
      ∧ ¬ ((∃ g ∈ u.windows, g.Guards k i)
        ∧ (u.desc.conflict = .protectFirst
          ∨ (u.desc.conflict = .byPriority ∧ ∃ g ∈ u.windows, g.Guards k i ∧ c.priority ≤ g.priority))) := by
  rw [mem_contenders_iff, mem_candidates_iff, ← Bool.not_eq_true, conflictDrops_eq_true_iff]
  constructor
  · rintro ⟨⟨i, hi, hc⟩, hstays⟩
    rw [(candidate_some hc).1] at hstays
    exact ⟨i, hi, hc, hstays⟩
  · rintro ⟨i, hi, hc, hstays⟩
    rw [← (candidate_some hc).1] at hstays
    exact ⟨⟨i, hi, hc⟩, hstays⟩

/-- A contender is ON exactly when it is granted (R94). -/
theorem contender_on_iff {k : Conditions} {u : BankUnit} (hlanes : u.desc.lanes ≤ 128) {c : Candidate}
    (hc : c ∈ contenders k u) : (composeImage k u).getLsbD c.lane = true ↔ c ∈ granted k u := by
  obtain ⟨i, hi, hsome, -⟩ := (mem_contenders_iff_exists k u c).1 hc
  obtain ⟨hlane, -, hnotHeld, -⟩ := candidate_some hsome
  have hon := composeImage_lane_iff k u ⟨i, by omega⟩
  rw [hlane, hon, hnotHeld]
  constructor
  · rintro ⟨-, hheld | ⟨d, hd, hsame⟩⟩
    · exact absurd hheld Bool.false_ne_true
    · obtain ⟨j, -, hj, -⟩ := (mem_contenders_iff_exists k u d).1 ((mem_granted_iff k u d).1 hd).1
      obtain rfl : j = i := (candidate_some hj).1.symm.trans hsame
      rwa [← Option.some.inj (hj.symm.trans hsome)]
  · exact fun hgranted => ⟨hi, .inr ⟨c, hgranted, hlane⟩⟩

/-- Each contender that is left OFF is denied (R94, R111). -/
theorem denied_length {k : Conditions} {u : BankUnit} (hlanes : u.desc.lanes ≤ 128) :
    (contenders k u).length - (granted k u).length =
      ((contenders k u).filter fun c => !(composeImage k u).getLsbD c.lane).length := by
  have hon : granted k u = (contenders k u).filter fun c => (composeImage k u).getLsbD c.lane := by
    rw [granted_eq, List.filter_filter]
    refine List.filter_congr fun c hc => ?_
    rw [Bool.eq_iff_iff, contender_on_iff hlanes hc, mem_granted_iff, and_iff_right hc, Bool.and_eq_true,
      decide_eq_true_eq, and_comm]
  have hsplit := List.length_eq_length_filter_add (l := contenders k u) fun c => (composeImage k u).getLsbD c.lane
  rw [← hon] at hsplit
  omega

theorem qualifies_iff (u : BankUnit) (c : Candidate) :
    qualifies u c = true ↔ (u.desc.kind = .air → 0 < u.airLow → u.desc.reservePriority ≤ c.priority) := by
  simp only [qualifies, BankUnit.onReserve, Bool.or_eq_true, Bool.not_eq_true', Bool.and_eq_false_iff, decide_eq_true_eq,
    decide_eq_false_iff_not]
  tauto

/-- Those that rank before a contender, by the ranking keys written out. -/
theorem rankIn_eq (k : Conditions) (u : BankUnit) (c : Candidate) :
    rankIn ((contenders k u).filter (qualifies u)) c = ((contenders k u).filter fun d =>
      (!(decide (u.desc.kind = .air) && decide (0 < u.airLow)) || decide (u.desc.reservePriority ≤ d.priority))
        && decide ((d.wasOn = true ∧ c.wasOn = false)
          ∨ (d.wasOn = c.wasOn ∧ (c.priority < d.priority
            ∨ (c.priority = d.priority ∧ (d.first < c.first
              ∨ (d.first = c.first ∧ d.lane < c.lane))))))).length := by
  rw [rankIn, List.filter_filter]
  simp only [← Candidate.before_iff, Bool.decide_eq_true, Bool.and_comm (Candidate.before _ _)]
  rfl

theorem capacity_eq (k : Conditions) (u : BankUnit) : capacity k u =
    (if k.linked = false then 0
      else if u.desc.kind = .air ∧ 0 < u.airLow then u.desc.reserveBudget else u.desc.budget)
      - ((List.range u.desc.lanes).filter (holdLane k u)).length := by
  simp [capacity, effectiveBudget, BankUnit.onReserve, holdLanes]

/-! ## The composition of a boundary -/

/-- An image does not depend on the counters. -/
theorem composeImage_counters (k : Conditions) (u : BankUnit) (c : BankCounters) :
    composeImage k { u with counters := c } = composeImage k u := rfl

/-- The candidates denied do not depend on the counters. -/
theorem compose_budgetDenied_counters (k : Conditions) (u : BankUnit) (c : BankCounters)
    (hc : c.budgetDenied = u.counters.budgetDenied) :
    (compose k { u with counters := c }).counters.budgetDenied = (compose k u).counters.budgetDenied := by
  show satAdd c.budgetDenied _ = satAdd u.counters.budgetDenied _
  rw [hc]
  rfl

/-- What a boundary composes from, but for the counters: the image latched, the closed windows gone. -/
theorem State.composing_eq (s : State) (b : BankIx) : s.composing b =
    { { s.bank b with
        latched := (s.bank b).composed
        windows := (s.bank b).windows.filter fun w => decide (0 < sdiff w.closePos s.atBoundary.p) } with
      counters := (s.composing b).counters } := by
  simp only [State.composing, retireClosed, Window.not_closed_eq]

/-- Settles O35: `composeImage_lane_iff` and `mem_granted_iff`, with the ranking keys written out. -/
theorem candidatesAreGrantedByRank : Obligations.CandidatesAreGrantedByRank := by
  refine ⟨fun k u hlanes => ⟨fun i hi => ⟨holdLane_iff k u i, candidate?_isSome_iff k u i, fun c => candidate?_some,
    ?_⟩, capacity_eq k u, ?_, fun c => ⟨mem_contenders_iff_exists k u c, fun hc => ?_⟩⟩, ?_⟩
  · show (composeImage k u).getLsbD i.val = true ↔
      _ ∨ ∃ c ∈ contenders k u, c.lane = i.val ∧ (composeImage k u).getLsbD c.lane = true
    rw [composeImage_lane_iff, and_iff_right hi]
    refine or_congr_right ⟨?_, ?_⟩
    · rintro ⟨c, hc, hlane⟩
      have hcontends := ((mem_granted_iff k u c).1 hc).1
      exact ⟨c, hcontends, hlane, (contender_on_iff hlanes hcontends).2 hc⟩
    · rintro ⟨c, hc, hlane, hon⟩
      exact ⟨c, (contender_on_iff hlanes hc).1 hon, hlane⟩
  · rw [← satAdd_toNat]
    exact congrArg (fun n => (satAdd _ n).toNat) (denied_length hlanes)
  · rw [← qualifies_iff, ← rankIn_eq]
    refine (contender_on_iff hlanes hc).trans ?_
    rw [mem_granted_iff, and_iff_right hc]
  · rintro s b n rest u hrun hk hn rfl
    refine ⟨_, exec_slotBoundary_bank hrun b, ?_⟩
    rw [bankBoundary_inUse_bank hk hn, countHold_eq, State.composing_eq]
    refine ⟨composeImage_counters _ _ _, compose_budgetDenied_counters _ _ _ ?_⟩
    exact foldl_countOutcome_other (f := (·.budgetDenied)) (fun c o _ => by cases o <;> rfl) _ _

end Sys2Proof.Machine

/-! O36: run, hold and recovery of the lanes after a boundary (R63, R95, R96); what a slot does to their heat (R98). -/

namespace Sys2Proof.Machine

/-! ## Lanes -/

theorem nextThermal_run (d : BankEntry) (on : Bool) (l : Lane) :
    (nextThermal d on l).onRun = l.onRun ∧ (nextThermal d on l).holdLeft = l.holdLeft
      ∧ (nextThermal d on l).recoveryLeft = l.recoveryLeft := by
  unfold nextThermal
  dsimp only
  split <;> exact ⟨rfl, rfl, rfl⟩

theorem nextRun_heat (d : BankEntry) (on was : Bool) (l : Lane) :
    (nextRun d on was l).heat = l.heat ∧ (nextRun d on was l).thermal = l.thermal := by
  cases on <;> exact ⟨rfl, rfl⟩

/-- The run state of a composed lane that, if ON, had no recovery left and room in its run (R95, R96). -/
theorem nextRun_follows {d : BankEntry} {on : Bool} (was : Bool) {l : Lane}
    (hfree : on = true → l.recoveryLeft = 0 ∧ l.onRun < d.maxSlots) :
    let m := nextRun d on was l
    (on = false → m.onRun = 0 ∧ m.holdLeft = 0 ∧ m.recoveryLeft = l.recoveryLeft - 1)
      ∧ (on = true → was = false → m.onRun = 1 ∧ m.holdLeft = d.minSlots - 1)
      ∧ (on = true → was = true → m.onRun = l.onRun + 1 ∧ m.holdLeft = l.holdLeft - 1)
      ∧ (on = true → m.recoveryLeft = if m.onRun = d.maxSlots then d.recoverySlots else 0)
      ∧ (on = true → 1 ≤ d.maxSlots → m.onRun ≤ d.maxSlots) := by
  cases on with
  | false => simp [nextRun]
  | true =>
    obtain ⟨hrest, hlow⟩ := hfree rfl
    cases was with
    | false => simp [nextRun, nextOnRun, hrest]
    | true => simpa [nextRun, nextOnRun, hrest] using fun _ => hlow

/-- A lane's heat and thermal state after a slot at a COIL bank (R98). -/
theorem nextThermal_coil {d : BankEntry} (hd : d.kind = .coil) (on : Bool) (l : Lane) :
    (nextThermal d on l).heat = nextHeat d on l
      ∧ (l.thermal = .normal → ((nextThermal d on l).thermal = .cooling ↔ d.heatTrip ≤ nextHeat d on l))
      ∧ (l.thermal = .cooling → ((nextThermal d on l).thermal = .normal ↔ nextHeat d on l ≤ d.heatResume)) := by
  simp only [nextThermal, if_pos hd, true_and]
  exact ⟨fun h => by simp [h], fun h => by simp [h]⟩

/-- An AIR bank's lanes keep heat and thermal state (R98). -/
theorem nextThermal_air {d : BankEntry} (hd : d.kind = .air) (on : Bool) (l : Lane) : nextThermal d on l = l := by
  unfold nextThermal
  exact if_neg (by simp [hd])

section
variable {s : State} {b : BankIx} {n : BitVec 8} {rest : List (BitVec 8)}
  (hk : (s.bank b).desc.kind ≠ .disabled) (hn : (s.bankHanded b).boundaries = n :: rest)
include hk hn

/-- The lanes after a boundary, from the image that it composed and the one that it latched. -/
theorem bankBoundary_lane (i : Fin 128) :
    ((bankBoundary b s).bank b).lanes[i] =
      if i.val < (s.bank b).desc.lanes then
        nextThermal (s.bank b).desc (((bankBoundary b s).bank b).composed.getLsbD i.val)
          (nextRun (s.bank b).desc (((bankBoundary b s).bank b).composed.getLsbD i.val)
            ((s.bank b).composed.getLsbD i.val) (s.bank b).lanes[i])
      else (s.bank b).lanes[i] := by
  have hlanes : ((bankBoundary b s).bank b).lanes = nextLanes (s.composing b) ((bankBoundary b s).bank b).composed := by
    rw [bankBoundary_inUse_bank hk hn, countHold_eq]
    rfl
  rw [hlanes]
  exact nextLanes_get _ _ i

/-- A lane that is ON after a boundary had no recovery left and room in its run (R90). -/
theorem recoveryLeft_and_onRun_of_on {i : Fin 128} (hon : ((bankBoundary b s).bank b).composed.getLsbD i.val = true) :
    (s.bank b).lanes[i].recoveryLeft = 0 ∧ (s.bank b).lanes[i].onRun < (s.bank b).desc.maxSlots := by
  rw [bankBoundary_composed hk hn] at hon
  have hfree := not_laneBlocked_of_on hon
  exact ⟨Nat.eq_zero_of_not_pos fun h => hfree (.inl h), Nat.not_le.1 fun h => hfree (.inr (.inl h))⟩

end

/-- Settles O36: a lane ON was not blocked, so that `nextRun` starts from no recovery and a run below max_slots. -/
theorem runStateFollowsTheImage : Obligations.RunStateFollowsTheImage := by
  intro s b n rest hrun hk hn
  refine ⟨_, exec_slotBoundary_bank hrun b, ?_⟩
  rintro i l l' on was rfl hl' hon rfl
  rw [bankBoundary_lane hk hn] at hl'
  have hfree : on = true → (s.bank b).lanes[i].recoveryLeft = 0 ∧ (s.bank b).lanes[i].onRun < (s.bank b).desc.maxSlots :=
    fun h => recoveryLeft_and_onRun_of_on hk hn (hon.symm.trans h)
  rw [← hon] at hl'
  refine ⟨fun habove => by rw [hl', if_neg (by omega)], fun hi => ?_⟩
  rw [if_pos hi] at hl'
  obtain ⟨hon_run, hhold, hrecovery⟩ := nextThermal_run (s.bank b).desc on
    (nextRun (s.bank b).desc on ((s.bank b).composed.getLsbD i.val) (s.bank b).lanes[i])
  rw [hl', hon_run, hhold, hrecovery]
  exact nextRun_follows _ hfree

end Sys2Proof.Machine

/-! O37: the heat of the lanes after a boundary, and the lanes that trip (R98, R99). -/

namespace Sys2Proof.Machine

/-! ## Trips -/

/-- The lanes that trip between two states of a bank's lanes: NORMAL before, COOLING after (R99). -/
def tripped (before after : Vector Lane 128) (i : Fin 128) : Bool :=
  decide (before[i].thermal = .normal) && decide (after[i].thermal = .cooling)

theorem tripped_iff (before after : Vector Lane 128) (i : Fin 128) :
    tripped before after i = true ↔ before[i].thermal = .normal ∧ after[i].thermal = .cooling := by
  rw [tripped, Bool.and_eq_true, decide_eq_true_eq, decide_eq_true_eq]

/-- A lane trips only below `lanes`, so that the trips that a composition counts are those of all the lanes (R99). -/
theorem trips_eq {u : BankUnit} {after : Vector Lane 128}
    (habove : ∀ i : Fin 128, u.desc.lanes ≤ i.val → after[i] = u.lanes[i]) :
    trips u after = ((List.finRange 128).filter (tripped u.lanes after)).length := by
  have htest (i : Fin 128) : (decide ((u.lane i).thermal = .normal)
      && decide ((after.toList.getD i .rest).thermal = .cooling)) = tripped u.lanes after i := by
    rw [lane_get, tripped]
    simp
  have hperm : ((List.range u.desc.lanes).filter fun i => decide ((u.lane i).thermal = .normal)
      && decide ((after.toList.getD i .rest).thermal = .cooling)).Perm
      (((List.finRange 128).filter (tripped u.lanes after)).map (·.val)) := by
    refine (List.perm_ext_iff_of_nodup (List.nodup_range.filter _)
      (((List.nodup_finRange 128).filter _).map Fin.val_injective)).2 fun i => ?_
    rw [List.mem_filter, List.mem_range, List.mem_map]
    constructor
    · rintro ⟨-, htrip⟩
      by_cases hi : i < 128
      · exact ⟨⟨i, hi⟩, List.mem_filter.2 ⟨List.mem_finRange _, (htest ⟨i, hi⟩).symm.trans htrip⟩, rfl⟩
      · exfalso
        have hnone : after.toList.getD i .rest = .rest := by simp [hi]
        rw [hnone] at htrip
        simp [Lane.rest] at htrip
    · rintro ⟨i, hmem, rfl⟩
      have htrip := (List.mem_filter.1 hmem).2
      refine ⟨?_, (htest i).trans htrip⟩
      by_contra hi
      obtain ⟨hbefore, hafter⟩ := (tripped_iff _ _ _).1 htrip
      rw [habove i (Nat.not_lt.1 hi), hbefore] at hafter
      cases hafter
  rw [trips, hperm.length_eq, List.length_map]

theorem length_filter_tripped_eq_zero_iff (before after : Vector Lane 128) :
    ((List.finRange 128).filter (tripped before after)).length = 0 ↔
      ¬ ∃ i : Fin 128, before[i].thermal = .normal ∧ after[i].thermal = .cooling := by
  simp only [List.length_eq_zero_iff, List.filter_eq_nil_iff, List.mem_finRange, true_implies, tripped_iff, not_exists]

/-! ## COIL_TRIP at a boundary -/

/-- The flags and the return queue after a boundary: COIL_TRIP when a lane trips (R99). -/
theorem boundaryInUse_mgmt_portU (b : BankIx) (n : BitVec 8) (s : State) :
    (boundaryInUse b n s).mgmt =
        (if trips (s.bank b) ((boundaryInUse b n s).bank b).lanes = 0 then s else raise [.coilTrip] s).mgmt
      ∧ (boundaryInUse b n s).portU =
        (if trips (s.bank b) ((boundaryInUse b n s).bank b).lanes = 0 then s else raise [.coilTrip] s).portU := by
  rw [boundaryInUse_bank]
  have hk : conditions (handFire b n (s.setBank b { s.bank b with latched := (s.bank b).composed })) = conditions s := by
    simp [conditions]
  have htrips (lanes : Vector Lane 128) :
      trips { s.bank b with latched := (s.bank b).composed } lanes = trips (s.bank b) lanes := rfl
  unfold boundaryInUse
  simp only [handFire_frame_at, State.bank_setBank_self, hk, htrips]
  split
  · simp
  · exact and_comm.1 (raise_congr [.coilTrip] (by simp) (by simp) (by simp))

section
variable {s : State} {b : BankIx} {n : BitVec 8} {rest : List (BitVec 8)}
  (hk : (s.bank b).desc.kind ≠ .disabled) (hn : (s.bankHanded b).boundaries = n :: rest)
include hk hn

/-- Some lane of a bank trips at its boundary (R99). -/
theorem trips_bankBoundary :
    trips (s.bank b) ((bankBoundary b s).bank b).lanes =
      ((List.finRange 128).filter (tripped (s.bank b).lanes ((bankBoundary b s).bank b).lanes)).length :=
  trips_eq fun i hi => by rw [bankBoundary_lane hk hn, if_neg (Nat.not_lt.2 hi)]

/-- Each trip is counted (R99). -/
theorem bankBoundary_coilTrips : ((bankBoundary b s).bank b).counters.coilTrips =
    satAdd (s.bank b).counters.coilTrips (trips (s.bank b) ((bankBoundary b s).bank b).lanes) := by
  have hkept : (s.composing b).counters.coilTrips = (s.bank b).counters.coilTrips :=
    foldl_countOutcome_other (f := (·.coilTrips)) (fun c o _ => by cases o <;> rfl) _ _
  rw [← hkept, bankBoundary_inUse_bank hk hn, countHold_eq]
  rfl

/-- The flags and the return queue after a boundary: COIL_TRIP, with its NOTICE, when a lane trips (R99). -/
theorem bankBoundary_mgmt_portU {before after : Vector Lane 128} (hbefore : before = (s.bank b).lanes)
    (hafter : after = ((bankBoundary b s).bank b).lanes) :
    ((∃ i : Fin 128, before[i].thermal = .normal ∧ after[i].thermal = .cooling) →
        (bankBoundary b s).mgmt = (raise [.coilTrip] s).mgmt ∧ (bankBoundary b s).portU = (raise [.coilTrip] s).portU)
      ∧ ((¬ ∃ i : Fin 128, before[i].thermal = .normal ∧ after[i].thermal = .cooling) →
        (bankBoundary b s).mgmt = s.mgmt ∧ (bankBoundary b s).portU = s.portU) := by
  subst hbefore hafter
  rw [← length_filter_tripped_eq_zero_iff, ← not_not (a := ∃ _, _), ← length_filter_tripped_eq_zero_iff,
    ← trips_bankBoundary hk hn, bankBoundary_inUse hk hn]
  obtain ⟨hmgmt, hportU⟩ := boundaryInUse_mgmt_portU b n (s.setBankHanded b { s.bankHanded b with boundaries := rest })
  rw [State.bank_setBankHanded] at hmgmt hportU
  rw [hmgmt, hportU]
  refine ⟨fun htrips => ?_, fun hnone => ?_⟩
  · rw [if_neg htrips]
    exact and_comm.1 (raise_congr [.coilTrip] rfl rfl rfl)
  · rw [if_pos hnone]
    exact ⟨rfl, rfl⟩

end

/-- Settles O37: the lanes by `bankBoundary_lane`, the count and the flag by the lanes that trip. -/
theorem heatFollowsTheImage : Obligations.HeatFollowsTheImage := by
  intro s b n rest hrun hk hn
  refine ⟨_, exec_slotBoundary_bank hrun b, ?_, ?_, ?_⟩
  · rintro i l l' rfl hl'
    rw [bankBoundary_lane hk hn] at hl'
    generalize ((bankBoundary b s).bank b).composed.getLsbD i.val = on at hl' ⊢
    obtain ⟨hheat, hthermal⟩ := nextRun_heat (s.bank b).desc on ((s.bank b).composed.getLsbD i.val) (s.bank b).lanes[i]
    refine ⟨fun hair => ?_, fun hcoil hi => ?_⟩
    · rw [nextThermal_air hair] at hl'
      split at hl'
      · rw [hl']
        exact ⟨hheat, hthermal⟩
      · rw [hl']
        exact ⟨rfl, rfl⟩
    · rw [if_pos hi] at hl'
      have hslot := nextThermal_coil hcoil on
        (nextRun (s.bank b).desc on ((s.bank b).composed.getLsbD i.val) (s.bank b).lanes[i])
      rw [← hl', hthermal] at hslot
      obtain ⟨hnext, htrip, hresume⟩ := hslot
      rw [hnext]
      refine ⟨?_, ?_, htrip, hresume⟩
      · rintro rfl
        rw [← hheat]
        rfl
      · rintro rfl
        rw [← hheat]
        rfl
  · rw [← satAdd_toNat]
    rw [bankBoundary_coilTrips hk hn, trips_bankBoundary hk hn]
    rfl
  · obtain ⟨htrips, hnone⟩ := bankBoundary_mgmt_portU hk hn rfl rfl
    refine ⟨?_, htrips, fun h => hnone (not_exists.2 h)⟩
    split
    · rw [(htrips ‹_›).1, raise_one, raiseOne_flags]
      rfl
    · rw [(hnone ‹_›).1]

end Sys2Proof.Machine

/-! O38: STATUS frames, and the end of an air-low hold (R100 to R103). -/

namespace Sys2Proof.Machine

/-- A STATUS frame starts an air-low hold at an AIR bank that is in none (R101). -/
theorem startsHold_iff (d : DriverStatus) (u : BankUnit) :
    startsHold d u = true ↔ u.desc.kind = .air ∧ 0 < d.airLow ∧ u.airLow = 0 := by
  simp [startsHold, Nat.pos_iff_ne_zero, and_assoc]

/-- What a STATUS frame sets in a Bank Unit: the inhibit flag, the air-low length at an AIR bank, the count of a hold that
starts (R100, R101, R103). -/
theorem takeStatus_eq (d : DriverStatus) (u : BankUnit) : takeStatus d u =
    { u with
      inhibit := d.inhibit
      airLow := if u.desc.kind = .air then d.airLow else u.airLow
      counters := if u.desc.kind = .air ∧ 0 < d.airLow ∧ u.airLow = 0 then
        { u.counters with airLow := satInc u.counters.airLow } else u.counters } := by
  unfold takeStatus
  by_cases hair : u.desc.kind = .air <;> simp [hair, Nat.pos_iff_ne_zero]

theorem takeStatus_airReport (d : DriverStatus) (u : BankUnit) : (takeStatus d u).airReport = u.airReport := by
  rw [takeStatus_eq]

theorem holdsFeeder_eq (u : BankUnit) :
    u.holdsFeeder = (decide (u.desc.kind = .air ∧ 0 < u.airLow) && u.desc.airFeedHold) := by
  rw [BankUnit.holdsFeeder, BankUnit.onReserve, Bool.decide_and]

/-- A bank after a STATUS frame: the report of a hold that ran out withdrawn, the frame taken, a change of the AIR
combination reported (R101 to R103; log 19). -/
def BankUnit.afterStatus (u : BankUnit) (d : DriverStatus) (withdrawn : Bool) : BankUnit :=
  let v := takeStatus d { u with airReport := u.airReport && !withdrawn, holdEnd := false }
  { v with airReport := v.holdsFeeder }

/-- Settling a hold that ran out, with a report of the bank taken (R101, R102; log 19). -/
theorem endHold_setBankHanded {s : State} {b : BankIx} {withdrawn : Bool} (g : BankHanded)
    (hw : withdrawn = true ↔ (s.bank b).holdEnd = true ∧ (s.bank b).airReport = true) :
    endHold b (s.setBankHanded b g) =
      (s.setBankHanded b { g with air := g.air ++ (if withdrawn then [false] else []) }).setBank b
        { s.bank b with airReport := (s.bank b).airReport && !withdrawn, holdEnd := false } := by
  rw [endHold_eq (withdrawn := withdrawn) (by simpa using hw), State.bankHanded_setBankHanded_self,
    ← State.setBank_setBankHanded, State.setBankHanded_setBankHanded]
  rfl

/-- The state after a STATUS frame at a bank in use, but for the flag of a hold that starts. -/
def State.afterStatus (s : State) (b : BankIx) (d : DriverStatus) (rest : List DriverStatus) (withdrawn : Bool) : State :=
  let u := (s.bank b).afterStatus d withdrawn
  (s.setBankHanded b { s.bankHanded b with
    status := rest
    air := (s.bankHanded b).air ++ (if withdrawn then [false] else [])
      ++ (if u.airReport = ((s.bank b).airReport && !withdrawn) then [] else [u.airReport]) }).setBank b u

/-- STATUS_FRAME at a bank in use (R101 to R103). -/
theorem exec_statusFrame {s : State} {b : BankIx} {d : DriverStatus} {rest : List DriverStatus} {withdrawn : Bool}
    (hrun : s.inReset = false) (hk : (s.bank b).desc.kind ≠ .disabled) (hd : (s.bankHanded b).status = d :: rest)
    (hw : withdrawn = true ↔ (s.bank b).holdEnd = true ∧ (s.bank b).airReport = true) :
    exec (.statusFrame b) s = .next
      (if (s.bank b).desc.kind = .air ∧ 0 < d.airLow ∧ (s.bank b).airLow = 0 then
        raise [.airLow] (s.afterStatus b d rest withdrawn)
      else s.afterStatus b d rest withdrawn) := by
  have hended := endHold_setBankHanded { s.bankHanded b with status := rest } hw
  have htaken : reportAir b ((endHold b (s.setBankHanded b { s.bankHanded b with status := rest })).setBank b
      (takeStatus d ((endHold b (s.setBankHanded b { s.bankHanded b with status := rest })).bank b))) =
      s.afterStatus b d rest withdrawn := by
    rw [hended, reportAir_eq]
    simp only [State.bank_setBank_self, State.bankHanded_setBank, State.bankHanded_setBankHanded_self,
      ← State.setBank_setBankHanded, State.setBank_setBank, State.setBankHanded_setBankHanded, takeStatus_airReport,
      State.afterStatus, BankUnit.afterStatus]
    rfl
  have hstarts : startsHold d ((endHold b (s.setBankHanded b { s.bankHanded b with status := rest })).bank b) = true ↔
      (s.bank b).desc.kind = .air ∧ 0 < d.airLow ∧ (s.bank b).airLow = 0 := by
    rw [startsHold_iff, hended, State.bank_setBank_self]
  simp only [exec, execStatusFrame, whenRunning_running _ hrun, hd, if_neg hk]
  rw [htaken]
  exact congrArg _ (if_congr hstarts rfl rfl)

/-- What STATUS_FRAME changes, whether a hold starts or not (R101 to R103). -/
theorem exists_exec_statusFrame {s : State} {b : BankIx} {d : DriverStatus} {rest : List DriverStatus} {withdrawn : Bool}
    (hrun : s.inReset = false) (hk : (s.bank b).desc.kind ≠ .disabled) (hd : (s.bankHanded b).status = d :: rest)
    (hw : withdrawn = true ↔ (s.bank b).holdEnd = true ∧ (s.bank b).airReport = true) :
    ∃ t, exec (.statusFrame b) s = .next t ∧ t.bank b = (s.bank b).afterStatus d withdrawn
      ∧ t.bankHanded b = (s.afterStatus b d rest withdrawn).bankHanded b ∧ t.portD = s.portD ∧ SameOutsideBank b s t
      ∧ ((s.bank b).desc.kind = .air ∧ 0 < d.airLow ∧ (s.bank b).airLow = 0 →
          t.mgmt = (raise [.airLow] s).mgmt ∧ t.portU = (raise [.airLow] s).portU)
      ∧ (¬ ((s.bank b).desc.kind = .air ∧ 0 < d.airLow ∧ (s.bank b).airLow = 0) →
          t.mgmt = s.mgmt ∧ t.portU = s.portU) := by
  have hbank : (s.afterStatus b d rest withdrawn).bank b = (s.bank b).afterStatus d withdrawn :=
    State.bank_setBank_self _ _ _
  have hsame : SameOutsideBank b s (s.afterStatus b d rest withdrawn) := sameOutsideBank_set _ _ _ _
  refine ⟨_, exec_statusFrame hrun hk hd hw, ?_⟩
  split
  case isTrue hstarts =>
    exact ⟨by simpa using hbank, by simp, by simp [State.afterStatus], hsame.trans (sameOutsideBank_raise b _ _),
      fun _ => and_comm.1 (raise_congr [.airLow] rfl rfl rfl), fun h => absurd hstarts h⟩
  case isFalse hstarts =>
    exact ⟨hbank, rfl, rfl, hsame, fun h => absurd h hstarts, fun _ => ⟨rfl, rfl⟩⟩

/-- AIR_LOW_HOLD_END at a bank whose hold has ended (R101). -/
theorem exec_airLowHoldEnd {s : State} (hrun : s.inReset = false) (b : BankIx) :
    exec (.airLowHoldEnd b) s = .next (endHold b s) := whenRunning_running _ hrun

/-- Settles O38: the bank and its reports by `State.afterStatus`, whether or not AIR_LOW is raised. -/
theorem statusFramesSetHoldAndInhibit : Obligations.StatusFramesSetHoldAndInhibit := by
  refine ⟨fun s b d rest withdrawn hrun hk hd hw => ?_, fun s b hrun hend => ?_⟩
  · obtain ⟨t, hexec, hbank, hhanded, hportD, hsame, hraised, hquiet⟩ := exists_exec_statusFrame hrun hk hd hw
    refine ⟨t, hexec, ?_⟩
    have hreports : (s.afterStatus b d rest withdrawn).bankHanded b = _ := State.bankHanded_setBankHanded_self s b _
    rw [hbank, hhanded, hreports]
    refine ⟨?_, ?_, ?_, ?_, rfl, rfl, ?_, ?_, hraised, hquiet, ?_, ?_, ?_, ?_, ?_, hportD, hsame, ?_, rfl⟩
    case refine_6 =>
      split
      case isTrue hstarts => rw [(hraised hstarts).1, raise_one, raiseOne_flags]; rfl
      case isFalse hstarts => rw [(hquiet hstarts).1]
    all_goals simp only [BankUnit.afterStatus, takeStatus_eq, holdsFeeder_eq]
  · have hw : (s.bank b).airReport = true ↔ (s.bank b).holdEnd = true ∧ (s.bank b).airReport = true :=
      (and_iff_right hend).symm
    refine ⟨_, (exec_airLowHoldEnd hrun b).trans (congrArg _ (endHold_eq hw)), ?_, ?_, rfl, rfl, rfl,
      sameOutsideBank_set b s _ _⟩
    · simp
    · cases hair : (s.bank b).airReport <;> simp

end Sys2Proof.Machine

/-! O44: the reports of hold reasons, and PORT_D_LINKED (R102, R125, R127 to R129). -/

namespace Sys2Proof.Machine

/-- The banks that report AIR, after a report of one of them (R102). -/
theorem airBanks_eq {banks airBanks : BitVec 4} {b : BankIx} {on : Bool}
    (h : ∀ c : BankIx, banks.getLsbD c.val = if c = b then on else airBanks.getLsbD c.val) :
    (if on then airBanks ||| BitVec.twoPow 4 b.val else airBanks &&& ~~~BitVec.twoPow 4 b.val) = banks := by
  refine BitVec.eq_of_getLsbD_eq fun i hi => ?_
  rw [h ⟨i, hi⟩]
  by_cases hib : i = b.val <;> cases on <;> simp [hib, hi, Fin.ext_iff]

theorem airReportTaken_eq {banks : BitVec 4} {b : BankIx} {on : Bool} {s : State}
    (h : ∀ c : BankIx, banks.getLsbD c.val = if c = b then on else s.station.airBanks.getLsbD c.val) :
    airReportTaken b on s = setHolds { s.station.holds with air := decide (banks ≠ 0) }
      (s.setStation { s.station with airBanks := banks }) := by
  rw [← airBanks_eq h]
  rfl

/-- The feeder command that a set of hold reasons gives (R125). -/
theorem HoldSet.eq_command {h : HoldSet} {c : FeederCommand}
    (hc : c = .hold ↔ (h.mode || h.occupancy || h.blind || h.actuator || h.air || h.operator) = true) :
    c = h.command := by
  unfold HoldSet.command HoldSet.any
  split
  · exact hc.2 ‹_›
  · cases c with
    | hold => exact absurd (hc.1 rfl) ‹_›
    | release => rfl

/-- Settles O44: each report by the case of its source; the banks that report AIR by `airBanks_eq`. -/
theorem holdReasonReportsAndLinkUp : Obligations.HoldReasonReportsAndLinkUp := by
  intro s hrun
  refine ⟨fun on rest h => ?_, fun b on rest banks h hbanks => ?_, fun rest h => ?_, fun rest h => ?_, fun rest h => ?_,
    fun rest hs c h hhs hc => ?_⟩
  · simp only [exec, execHoldReasonReport, whenRunning_running _ hrun, h, occupancyReport]
  · simp only [exec, execHoldReasonReport, whenRunning_running _ hrun, h]
    exact congrArg _ (airReportTaken_eq hbanks)
  · simp only [exec, execHoldReasonReport, whenRunning_running _ hrun, h, portUReport, State.setStation]
  · simp only [exec, execHoldReasonReport, whenRunning_running _ hrun, h, portUReport, State.setStation]
  · simp only [exec, execHoldReasonReport, whenRunning_running _ hrun, h]
  · simp only [exec, execPortDLinked, whenRunning_running _ hrun, h, issueAll, State.setStation, Station.settle]
    rw [← hhs, ← HoldSet.eq_command hc]

end Sys2Proof.Machine

/-! O47: a frame from a receive lane is dropped, relayed or handed on (R160 to R164, R191). -/

namespace Sys2Proof.Machine

theorem exec_frameReceived {s : State} (hrun : s.inReset = false) (p : PortId) (bytes : List Byte) :
    exec (.frameReceived p bytes) s = .next (if takesFrames s p then takeFrame p bytes s else s) :=
  whenRunning_running _ hrun

theorem takeFrame_bad {bytes : List Byte} (h : parseFrame bytes = none) (p : PortId) (s : State) :
    takeFrame p bytes s = countBad p s := by
  rw [takeFrame, h]

section
variable {bytes : List Byte} {f : RxFrame} (hf : parseFrame bytes = some f) {s : State}
include hf

theorem takeFrame_relayed (hdest : f.dest ≠ s.nodeAddr) (p : PortId) : takeFrame p bytes s = relayFrame p bytes s := by
  rw [takeFrame, hf]
  exact if_neg hdest

theorem takeFrame_badStatus (hdest : f.dest = s.nodeAddr) (hkind : f.kind = .status) (hlength : f.payload.length ≠ 3)
    (p : PortId) : takeFrame p bytes s = countBad p s := by
  rw [takeFrame, hf]
  exact (if_pos hdest).trans (if_pos ⟨hkind, hlength⟩)

theorem takeFrame_handedOn (hdest : f.dest = s.nodeAddr) (hgood : f.kind = .status → f.payload.length = 3) (p : PortId) :
    takeFrame p bytes s = handOn p f s := by
  rw [takeFrame, hf]
  exact (if_pos hdest).trans (if_neg fun h => h.2 (hgood h.1))

end

/-- Which frames of the part a port does not hand on (R161). -/
theorem handOn_misdirected {p : PortId} {f : RxFrame}
    (h : (p = .u ∧ f.kind ≠ .detect ∧ f.kind ≠ .request) ∨ (p = .d ∧ f.kind ≠ .status)) (s : State) :
    handOn p f s = countMisdirected p s := by
  unfold handOn
  split <;> simp_all

theorem servedBy_iff (u : BankUnit) (node : NodeAddr) :
    u.servedBy node = true ↔ u.desc.kind ≠ .disabled ∧ BitVec.ofNat 6 u.desc.node = node := by
  simp [BankUnit.servedBy]

theorem any_servedBy_iff (s : State) (node : NodeAddr) : s.banks.toList.any (·.servedBy node) = true ↔
    ∃ b : BankIx, (s.bank b).desc.kind ≠ .disabled ∧ BitVec.ofNat 6 (s.bank b).desc.node = node := by
  simp only [List.any_eq_true, ← servedBy_iff]
  constructor
  · rintro ⟨u, hu, hserved⟩
    obtain ⟨i, hi, rfl⟩ := List.mem_iff_getElem.1 hu
    rw [Vector.length_toList] at hi
    exact ⟨⟨i, hi⟩, by simpa [State.bank] using hserved⟩
  · rintro ⟨b, hserved⟩
    exact ⟨s.bank b, by simp [State.bank], hserved⟩

theorem routeStatus_unknown {s : State} {src : NodeAddr}
    (h : ∀ b : BankIx, ¬ ((s.bank b).desc.kind ≠ .disabled ∧ BitVec.ofNat 6 (s.bank b).desc.node = src))
    (payload : List Byte) :
    routeStatus src payload s = { s with portD := { s.portD with unknownSource := satInc s.portD.unknownSource } } :=
  if_neg (by rw [any_servedBy_iff]; exact not_exists.2 h)

/-- The reports of each bank when a STATUS frame has found the banks in use that name its source (R100). -/
def State.statusReports (s : State) (src : NodeAddr) (d : DriverStatus) : Vector BankHanded 4 :=
  Vector.ofFn fun b : Fin 4 =>
    if s.banks[b].servedBy src then { s.handed.banks[b] with status := s.handed.banks[b].status ++ [d] }
    else s.handed.banks[b]

theorem statusReports_bank (s : State) (src : NodeAddr) (d : DriverStatus) (b : BankIx) :
    { s with handed := { s.handed with banks := s.statusReports src d } }.bankHanded b =
      if (s.bank b).desc.kind ≠ .disabled ∧ BitVec.ofNat 6 (s.bank b).desc.node = src then
        { s.bankHanded b with status := (s.bankHanded b).status ++ [d] }
      else s.bankHanded b := by
  exact (Vector.getElem_ofFn (f := _) b.isLt).trans (if_congr (servedBy_iff (s.bank b) src) rfl rfl)

theorem routeStatus_known {s : State} {src : NodeAddr}
    (h : ∃ b : BankIx, (s.bank b).desc.kind ≠ .disabled ∧ BitVec.ofNat 6 (s.bank b).desc.node = src)
    (payload : List Byte) :
    routeStatus src payload s =
      { s with handed := { s.handed with banks := s.statusReports src (statusOf payload) } } :=
  if_pos ((any_servedBy_iff s src).2 h)

/-- Settles O47: by the three ends of `takeFrame`, and of `relayFrame` and `handOn` in turn. -/
theorem framesAreDroppedRelayedOrHandedOn : Obligations.FramesAreDroppedRelayedOrHandedOn := by
  intro s p bytes takes hrun htakes
  rw [← takesFrames_iff] at htakes
  rw [exec_frameReceived hrun, htakes]
  refine ⟨fun hno => by rw [if_neg hno], fun hyes hbad => ?_, fun f hyes hf => ?_⟩
  · rw [if_pos hyes, takeFrame_bad hbad]
    rfl
  rw [if_pos hyes]
  refine ⟨?_, ?_, ?_, ?_, ?_, ?_, ?_, ?_, ?_, ?_⟩
  · rintro hdest rfl hroom
    rw [takeFrame_relayed hf hdest]
    exact congrArg _ (if_pos hroom)
  · rintro hdest rfl hfull
    rw [takeFrame_relayed hf hdest]
    exact congrArg _ (if_neg (Nat.not_lt.2 hfull))
  · rintro hdest rfl hroom
    rw [takeFrame_relayed hf hdest]
    exact congrArg _ (if_pos hroom)
  · rintro hdest rfl hfull
    rw [takeFrame_relayed hf hdest]
    exact congrArg _ (if_neg (Nat.not_lt.2 hfull))
  · intro hdest hkind hlength
    rw [takeFrame_badStatus hf hdest hkind hlength]
    rfl
  · rintro records hdest rfl hkind hrecords
    rw [takeFrame_handedOn hf hdest (by simp [hkind])]
    simp [handOn, hkind, hrecords]
  · rintro hdest rfl hkind
    rw [takeFrame_handedOn hf hdest (by simp [hkind])]
    simp [handOn, hkind]
  · rintro hdest rfl hkind hlength hknown
    have hrouted : handOn .d f s = routeStatus f.src f.payload s := by simp [handOn, hkind]
    rw [takeFrame_handedOn hf hdest fun _ => hlength, hrouted, routeStatus_known hknown]
    exact ⟨_, rfl, rfl, rfl, rfl, rfl, rfl, statusReports_bank s f.src (statusOf f.payload)⟩
  · rintro hdest rfl hkind hlength hunknown
    have hrouted : handOn .d f s = routeStatus f.src f.payload s := by simp [handOn, hkind]
    rw [takeFrame_handedOn hf hdest fun _ => hlength, hrouted, routeStatus_unknown hunknown]
  · intro hdest hother
    have hgood : f.kind = .status → f.payload.length = 3 := by
      rintro hkind
      obtain ⟨-, -, -, hnot⟩ | ⟨-, hnot⟩ | ⟨-, -, hlength⟩ := hother
      · exact absurd hkind hnot
      · exact absurd hkind hnot
      · exact hlength
    have hmisdirected : (p = .u ∧ f.kind ≠ .detect ∧ f.kind ≠ .request) ∨ (p = .d ∧ f.kind ≠ .status) := by
      obtain ⟨hp, hdetect, hrequest, -⟩ | hport | ⟨hp, hkind, -⟩ := hother
      · exact .inl ⟨hp, hdetect, hrequest⟩
      · exact .inr hport
      · exact .inl ⟨hp, by simp [hkind], by simp [hkind]⟩
    rw [takeFrame_handedOn hf hdest hgood, handOn_misdirected hmisdirected]
    rfl

end Sys2Proof.Machine

/-! O45: the all-off of the banks, one by one, and their frames on Port D (R105, R107, R163). -/

namespace Sys2Proof.Machine

/-! ## The all-off of one bank -/

/-- A Bank Unit after the all-off of an emergency stop: a DISABLED bank does nothing (R107, R109). -/
def BankUnit.stopped (u : BankUnit) : BankUnit :=
  if u.desc.kind = .disabled then u else { clearComposed u with latched := 0 }

theorem BankUnit.stopped_disabled {u : BankUnit} (h : u.desc.kind = .disabled) : u.stopped = u := if_pos h

theorem BankUnit.stopped_inUse {u : BankUnit} (h : u.desc.kind ≠ .disabled) :
    u.stopped.composed = 0 ∧ u.stopped.latched = 0 ∧ u.stopped.lanes = (clearComposed u).lanes := by
  rw [BankUnit.stopped, if_neg h]
  simp

/-- What the all-off of a bank leaves alone (R107). -/
@[simp] theorem BankUnit.stopped_frame (u : BankUnit) :
    u.stopped.desc = u.desc ∧ u.stopped.mode = u.mode ∧ u.stopped.windows = u.windows ∧ u.stopped.airLow = u.airLow
      ∧ u.stopped.airReport = u.airReport ∧ u.stopped.holdEnd = u.holdEnd ∧ u.stopped.inhibit = u.inhibit
      ∧ u.stopped.counters = u.counters := by
  unfold BankUnit.stopped
  split <;> simp

theorem allOffBank_eq {s : State} {a : BankIx} (h : (s.bank a).desc.kind ≠ .disabled) :
    allOffBank s a = handFire a s.pos.slot (s.setBank a (s.bank a).stopped) := by
  rw [BankUnit.stopped, if_neg h]
  exact if_neg h

theorem allOffBank_bank (s : State) (a b : BankIx) :
    (allOffBank s a).bank b = if b = a then (s.bank b).stopped else s.bank b := by
  by_cases ha : (s.bank a).desc.kind = .disabled
  · rw [allOffBank_disabled ha]
    split
    · rename_i hb
      rw [hb, BankUnit.stopped_disabled ha]
    · rfl
  · rw [allOffBank_eq ha, (handFire_frame_at _ _ _).1]
    by_cases hb : b = a
    · subst hb
      rw [State.bank_setBank_self, if_pos rfl]
    · rw [State.bank_setBank_ne _ hb, if_neg hb]

theorem foldl_allOffBank_bank {banks : List BankIx} (hnodup : banks.Nodup) (s : State) (b : BankIx) :
    (banks.foldl allOffBank s).bank b = if b ∈ banks then (s.bank b).stopped else s.bank b := by
  induction banks generalizing s with
  | nil => rfl
  | cons a banks ih =>
    obtain ⟨hnot, hnodup⟩ := List.nodup_cons.1 hnodup
    rw [List.foldl_cons, ih hnodup, allOffBank_bank]
    by_cases hb : b = a
    · subst hb
      simp [hnot]
    · simp [hb]

theorem allOff_bank (s : State) (b : BankIx) : (allOff s).bank b = (s.bank b).stopped := by
  rw [allOff, foldl_allOffBank_bank (BankIx.all_sorted.imp fun h => ne_of_lt h), if_pos (BankIx.mem_all b)]

/-! ## The all-off frames on Port D -/

theorem allOffBank_portD_busy {s : State} {a : BankIx} (hk : (s.bank a).desc.kind ≠ .disabled)
    (hlinked : (s.link .d).state = .linked) (hbusy : s.portD.tx ≠ none) :
    (allOffBank s a).portD = { s.portD with
      fire := s.portD.fire.set a (some (offFrame s a))
      fireOverruns := if s.portD.fire[a].isSome then satInc s.portD.fireOverruns else s.portD.fireOverruns } := by
  obtain ⟨u, hdesc, hlatched, heq⟩ := allOffBank_inUse hk
  rw [heq, handFire_busy (s := s.setBank a u) _ _ hlinked hbusy, State.bank_setBank_self, hdesc, hlatched]
  rfl

theorem allOffBank_portD_free {s : State} {a : BankIx} (hk : (s.bank a).desc.kind ≠ .disabled)
    (hlinked : (s.link .d).state = .linked) (hfree : s.portD.tx = none) (hfire : ∀ b : BankIx, s.portD.fire[b] = none) :
    (allOffBank s a).portD = { s.portD with tx := some (.own (offFrame s a)) } := by
  obtain ⟨u, hdesc, hlatched, heq⟩ := allOffBank_inUse hk
  rw [heq, handFire_free (s := s.setBank a u) _ _ hlinked hfree hfire, State.bank_setBank_self, hdesc, hlatched]
  rfl

theorem allOffBank_portD_notLinked {s : State} (hlink : (s.link .d).state ≠ .linked) (a : BankIx) :
    (allOffBank s a).portD = s.portD := by
  by_cases ha : (s.bank a).desc.kind = .disabled
  · rw [allOffBank_disabled ha]
  · rw [allOffBank_eq ha, handFire_notLinked]
    · rfl
    · exact hlink

theorem allOff_portD_notLinked {s : State} (hlink : (s.link .d).state ≠ .linked) : (allOff s).portD = s.portD := by
  unfold allOff
  induction BankIx.all generalizing s with
  | nil => rfl
  | cons a banks ih =>
    rw [List.foldl_cons, ih (by simpa using hlink), allOffBank_portD_notLinked hlink]

theorem foldl_allOffBank_unused {banks : List BankIx} {s : State}
    (h : ∀ b ∈ banks, (s.bank b).desc.kind = .disabled) : banks.foldl allOffBank s = s := by
  induction banks with
  | nil => rfl
  | cons a banks ih =>
    rw [List.foldl_cons, allOffBank_disabled (h a List.mem_cons_self)]
    exact ih fun b hb => h b (List.mem_cons_of_mem a hb)

/-- On a busy lane only the frames that wait and the overruns change (R163). -/
theorem foldl_allOffBank_portD_busy {banks : List BankIx} {s : State} (hlinked : (s.link .d).state = .linked)
    (hbusy : s.portD.tx ≠ none) :
    (banks.foldl allOffBank s).portD = { s.portD with
      fire := (banks.foldl allOffBank s).portD.fire, fireOverruns := (banks.foldl allOffBank s).portD.fireOverruns } := by
  induction banks generalizing s with
  | nil => rfl
  | cons a banks ih =>
    rw [List.foldl_cons]
    by_cases ha : (s.bank a).desc.kind = .disabled
    · rw [allOffBank_disabled ha]
      exact ih hlinked hbusy
    · have hport := allOffBank_portD_busy ha hlinked hbusy
      have hrest := ih (s := allOffBank s a) (by simpa using hlinked) (by rw [hport]; exact hbusy)
      rw [hport] at hrest
      exact hrest

/-- A frame that takes the place of its bank's waiting one counts as an overrun (R163). -/
theorem foldl_allOffBank_overruns {banks : List BankIx} (hnodup : banks.Nodup) {s : State}
    (hlinked : (s.link .d).state = .linked) (hbusy : s.portD.tx ≠ none) :
    (banks.foldl allOffBank s).portD.fireOverruns.toNat = min (s.portD.fireOverruns.toNat
      + (banks.filter fun b => decide ((s.bank b).desc.kind ≠ .disabled) && s.portD.fire[b].isSome).length)
      4294967295 := by
  induction banks generalizing s with
  | nil =>
    have hlow := s.portD.fireOverruns.isLt
    simp only [List.foldl_nil, List.filter_nil, List.length_nil]
    omega
  | cons a banks ih =>
    obtain ⟨hnot, hnodup⟩ := List.nodup_cons.1 hnodup
    rw [List.foldl_cons]
    by_cases ha : (s.bank a).desc.kind = .disabled
    · rw [allOffBank_disabled ha, ih hnodup hlinked hbusy, List.filter_cons_of_neg (by simp [ha])]
    · have hport := allOffBank_portD_busy ha hlinked hbusy
      have hothers : (banks.filter fun b => decide (((allOffBank s a).bank b).desc.kind ≠ .disabled)
          && (allOffBank s a).portD.fire[b].isSome) =
          banks.filter fun b => decide ((s.bank b).desc.kind ≠ .disabled) && s.portD.fire[b].isSome := by
        refine List.filter_congr fun b hb => ?_
        have hba : b ≠ a := fun h => hnot (h ▸ hb)
        rw [allOffBank_desc, (allOffBank_busy ha hlinked hbusy).2, if_neg hba]
      rw [ih hnodup (by simpa using hlinked) (by rw [hport]; exact hbusy), hothers, hport]
      by_cases hwaits : s.portD.fire[a].isSome
      · rw [List.filter_cons_of_pos (by simpa [ha] using hwaits), List.length_cons]
        simp only [hwaits, if_true, satInc_toNat]
        omega
      · rw [List.filter_cons_of_neg (by simpa [ha] using hwaits)]
        simp only [hwaits, Bool.false_eq_true, if_false]

theorem BankIx.finRange_eq_all : List.finRange 4 = BankIx.all := by
  decide

theorem BankIx.all_nodup : BankIx.all.Nodup := BankIx.all_sorted.imp fun h => ne_of_lt h

theorem allOff_eq_foldl (s : State) : allOff s = BankIx.all.foldl allOffBank s := rfl

/-- On a busy lane every all-off frame waits in its bank's place (R163). -/
theorem allOff_fire_busy {s : State} (hlinked : (s.link .d).state = .linked) (hbusy : s.portD.tx ≠ none) :
    (allOff s).portD.fire = Vector.ofFn fun b : Fin 4 =>
      if (s.bank b).desc.kind ≠ .disabled then some (offFrame s b) else s.portD.fire[b] := by
  have hfire := (allOff_busy BankIx.all_nodup hlinked hbusy).2
  rw [← allOff_eq_foldl] at hfire
  simp only [BankIx.mem_all, true_and] at hfire
  generalize (allOff s).portD.fire = fire at hfire ⊢
  ext1 i hi
  rw [Vector.getElem_ofFn]
  exact hfire ⟨i, hi⟩

theorem allOff_portD_busy {s : State} (hlinked : (s.link .d).state = .linked) (hbusy : s.portD.tx ≠ none) :
    (allOff s).portD = { s.portD with
      fire := Vector.ofFn fun b : Fin 4 =>
        if (s.bank b).desc.kind ≠ .disabled then some (offFrame s b) else s.portD.fire[b]
      fireOverruns := (allOff s).portD.fireOverruns } := by
  have hport := foldl_allOffBank_portD_busy (banks := BankIx.all) hlinked hbusy
  rwa [← allOff_eq_foldl, allOff_fire_busy hlinked hbusy] at hport

theorem allOff_overruns {s : State} (hlinked : (s.link .d).state = .linked) (hbusy : s.portD.tx ≠ none) :
    (allOff s).portD.fireOverruns.toNat = min (s.portD.fireOverruns.toNat
      + ((List.finRange 4).filter fun b => decide ((s.bank b).desc.kind ≠ .disabled) && s.portD.fire[b].isSome).length)
      4294967295 := by
  rw [BankIx.finRange_eq_all, allOff_eq_foldl]
  exact foldl_allOffBank_overruns BankIx.all_nodup hlinked hbusy

/-- On a free lane for which nothing waits the frame of the first bank in use goes at once, and the others wait (log 28). -/
theorem foldl_allOffBank_portD_idle {banks : List BankIx} (hsorted : banks.Pairwise (· < ·)) {s : State}
    (hlinked : (s.link .d).state = .linked) (hfree : s.portD.tx = none) (hfire : ∀ b : BankIx, s.portD.fire[b] = none)
    {b : BankIx} (hb : b ∈ banks) (hk : (s.bank b).desc.kind ≠ .disabled)
    (hfirst : ∀ c, c < b → (s.bank c).desc.kind = .disabled) :
    (banks.foldl allOffBank s).portD = { s.portD with
      tx := some (.own (offFrame s b))
      fire := Vector.ofFn fun c : Fin 4 =>
        if c ∈ banks ∧ (s.bank c).desc.kind ≠ .disabled ∧ c ≠ b then some (offFrame s c) else none } := by
  induction banks with
  | nil => cases hb
  | cons a banks ih =>
    obtain ⟨hless, hsorted⟩ := List.pairwise_cons.1 hsorted
    rw [List.foldl_cons]
    by_cases hab : a = b
    · subst hab
      have hport := allOffBank_portD_free hk hlinked hfree hfire
      have hlinked' : ((allOffBank s a).link .d).state = .linked := by simpa using hlinked
      have hbusy : (allOffBank s a).portD.tx ≠ none := by
        rw [hport]
        exact Option.some_ne_none _
      have hnodup : banks.Nodup := hsorted.imp fun h => ne_of_lt h
      have hnot : a ∉ banks := fun h => lt_irrefl a (hless a h)
      have hwaiting : (banks.foldl allOffBank (allOffBank s a)).portD.fire = Vector.ofFn fun c : Fin 4 =>
          if c ∈ a :: banks ∧ (s.bank c).desc.kind ≠ .disabled ∧ c ≠ a then some (offFrame s c) else none := by
        ext1 i hi
        rw [Vector.getElem_ofFn]
        refine ((allOff_busy hnodup hlinked' hbusy).2 ⟨i, hi⟩).trans ?_
        have hnone : (allOffBank s a).portD.fire[(⟨i, hi⟩ : BankIx)] = none := by
          rw [hport]
          exact hfire _
        rw [hnone, allOffBank_desc, offFrame_allOffBank]
        by_cases hia : (⟨i, hi⟩ : BankIx) = a
        · rw [if_neg fun h => hnot (hia ▸ h.1), if_neg fun h => h.2.2 hia]
        · simp [hia]
      have hoverruns : (banks.foldl allOffBank (allOffBank s a)).portD.fireOverruns = s.portD.fireOverruns := by
        refine BitVec.eq_of_toNat_eq ((foldl_allOffBank_overruns hnodup hlinked' hbusy).trans ?_)
        have hlow := s.portD.fireOverruns.isLt
        rw [List.filter_eq_nil_iff.2 fun c _ => by simp [hport, hfire], List.length_nil, hport]
        dsimp only
        omega
      rw [foldl_allOffBank_portD_busy hlinked' hbusy, hwaiting, hoverruns, hport]
    · have hmem : b ∈ banks := (List.mem_cons.1 hb).resolve_left (Ne.symm hab)
      have ha : (s.bank a).desc.kind = .disabled := hfirst a (hless b hmem)
      have hsame (c : BankIx) : (c ∈ banks ∧ (s.bank c).desc.kind ≠ .disabled ∧ c ≠ b) ↔
          (c ∈ a :: banks ∧ (s.bank c).desc.kind ≠ .disabled ∧ c ≠ b) := by
        rw [List.mem_cons]
        exact and_congr_left fun hc => (or_iff_right fun h : c = a => hc.1 (h ▸ ha)).symm
      rw [allOffBank_disabled ha, ih hsorted hmem]
      simp only [hsame]

end Sys2Proof.Machine

/-! O45: the emergency stop (R105, R107, R108, R146, R148). -/

namespace Sys2Proof.Machine

/-- On a free lane for which nothing waits, from the first bank in use on (log 28). -/
theorem allOff_portD_idle {s : State} (hlinked : (s.link .d).state = .linked) (hidle : s.forwardIdle) {b : BankIx}
    (hk : (s.bank b).desc.kind ≠ .disabled) (hfirst : ∀ c, c < b → (s.bank c).desc.kind = .disabled) :
    (allOff s).portD = { s.portD with
      tx := some (.own (offFrame s b))
      fire := Vector.ofFn fun c : Fin 4 =>
        if decide ((s.bank c).desc.kind ≠ .disabled) && decide (c ≠ b) then some (offFrame s c) else none } := by
  obtain ⟨hfree, hfire, -, -⟩ := hidle
  have hwaits (c : BankIx) : (c ∈ BankIx.all ∧ (s.bank c).desc.kind ≠ .disabled ∧ c ≠ b) ↔
      (decide ((s.bank c).desc.kind ≠ .disabled) && decide (c ≠ b)) = true := by
    rw [and_iff_right (BankIx.mem_all c), Bool.and_eq_true, decide_eq_true_eq, decide_eq_true_eq]
  rw [allOff_eq_foldl,
    foldl_allOffBank_portD_idle BankIx.all_sorted hlinked hfree hfire (BankIx.mem_all b) hk hfirst]
  simp only [hwaits]

theorem allOff_portD_unused {s : State} (h : ∀ b, (s.bank b).desc.kind = .disabled) : (allOff s).portD = s.portD := by
  rw [allOff_eq_foldl, foldl_allOffBank_unused fun b _ => h b]

/-! ## The emergency stop -/

theorem takeEmergencyStop_fault {s : State} (h : s.mc.mode = .fault) : takeEmergencyStop s = raise [.fault] (allOff s) :=
  if_pos h

/-- The flags and the return queue after an emergency stop: FAULT, with its NOTICE (R148). -/
theorem takeEmergencyStop_mgmt_portU (s : State) :
    (takeEmergencyStop s).mgmt = (raise [.fault] s).mgmt ∧ (takeEmergencyStop s).portU = (raise [.fault] s).portU := by
  by_cases h : s.mc.mode = .fault
  · rw [takeEmergencyStop_fault h]
    exact and_comm.1 (raise_congr [.fault] (by simp) (by simp) (by simp))
  · rw [takeEmergencyStop_notFault h]
    exact and_comm.1 (raise_congr [.fault] (by simp) (by simp) (by simp))

theorem takeEmergencyStop_portD (s : State) : (takeEmergencyStop s).portD = (allOff s).portD := by
  by_cases h : s.mc.mode = .fault
  · simp [takeEmergencyStop_fault h]
  · simp [takeEmergencyStop_notFault h]

/-- A Bank Unit after the all-off and the flush into FAULT (R105, R107, R108). -/
def BankUnit.faulted (u : BankUnit) : BankUnit := takeMode .fault (flushBank u.stopped)

theorem takeEmergencyStop_bank (s : State) (b : BankIx) :
    (takeEmergencyStop s).bank b = if s.mc.mode = .fault then (s.bank b).stopped else (s.bank b).faulted := by
  by_cases h : s.mc.mode = .fault
  · simp [takeEmergencyStop_fault h, allOff_bank, h]
  · simp [takeEmergencyStop_notFault h, allOff_bank, h, BankUnit.faulted]

theorem takeEmergencyStop_handed (s : State) :
    (takeEmergencyStop s).handed = { s.handed with
      occupancy := (takeEmergencyStop s).handed.occupancy, stationModes := (takeEmergencyStop s).handed.stationModes
      banks := (takeEmergencyStop s).handed.banks } := by
  apply Handed.eq_of_fields <;> simp

theorem BankUnit.faulted_eq (u : BankUnit) : u.faulted = clearComposed { flushBank u.stopped with mode := .fault } :=
  takeMode_notFiring rfl _

/-- What the flush into FAULT leaves of a bank (R105, R107, R108). -/
theorem BankUnit.faulted_frame (u : BankUnit) :
    u.faulted.mode = .fault ∧ u.faulted.windows = [] ∧ u.faulted.composed = 0 ∧ u.faulted.latched = u.stopped.latched
      ∧ u.faulted.desc = u.desc ∧ u.faulted.airLow = u.airLow ∧ u.faulted.inhibit = u.inhibit
      ∧ u.faulted.airReport = u.airReport ∧ u.faulted.holdEnd = u.holdEnd
      ∧ u.faulted.counters =
          { u.counters with abandoned := satAdd u.counters.abandoned u.windows.length } := by
  rw [BankUnit.faulted_eq]
  simp [flushBank]

/-- The lanes that an all-off cuts: those the composed image held ON (R107). -/
theorem BankUnit.stopped_lane {u : BankUnit} (hk : u.desc.kind ≠ .disabled) (i : Fin 128) : u.stopped.lanes[i] =
    if u.composed.getLsbD i.val = true then { u.lanes[i] with onRun := 0, holdLeft := 0 } else u.lanes[i] := by
  obtain ⟨-, -, hlanes⟩ := BankUnit.stopped_inUse hk
  simp only [hlanes]
  exact clearComposed_lane u i

theorem BankUnit.faulted_lane (u : BankUnit) (i : Fin 128) : u.faulted.lanes[i] =
    if u.composed.getLsbD i.val = true then { u.lanes[i] with onRun := 0, holdLeft := 0 } else u.lanes[i] := by
  have hcut := clearComposed_lane { flushBank u.stopped with mode := .fault } i
  rw [← BankUnit.faulted_eq] at hcut
  by_cases hk : u.desc.kind = .disabled
  · rw [hcut, BankUnit.stopped_disabled hk]
    rfl
  · obtain ⟨hoff, -, -⟩ := BankUnit.stopped_inUse hk
    rw [hcut, ← BankUnit.stopped_lane hk]
    exact if_neg (by simp [flushBank, hoff])

theorem BankUnit.stopped_latched (u : BankUnit) :
    u.stopped.latched = if u.desc.kind ≠ .disabled then 0 else u.latched := by
  by_cases hk : u.desc.kind = .disabled
  · rw [BankUnit.stopped_disabled hk, if_neg (not_not.2 hk)]
  · rw [(BankUnit.stopped_inUse hk).2.1, if_pos hk]

/-- In FAULT already, an emergency stop changes neither the mode nor the track nor a report (R148). -/
theorem takeEmergencyStop_ofFault {s : State} (h : s.mc.mode = .fault) :
    (takeEmergencyStop s).mc = s.mc ∧ (takeEmergencyStop s).track = s.track
      ∧ (takeEmergencyStop s).handed = s.handed := by
  simp [takeEmergencyStop_fault h]

/-- Entry into FAULT by an emergency stop, with its flush (R108, R148). -/
theorem takeEmergencyStop_ofNotFault {s : State} (h : s.mc.mode ≠ .fault) :
    (takeEmergencyStop s).mc = { s.mc with mode := .fault, cause := .estop } ∧ (takeEmergencyStop s).track = []
      ∧ (takeEmergencyStop s).handed.stationModes = s.handed.stationModes ++ [.fault]
      ∧ (∀ b, (takeEmergencyStop s).bankHanded b = { s.bankHanded b with retired := [], modes := [] })
      ∧ (s.mgmt.line.occLow < s.mgmt.line.occHigh →
          (takeEmergencyStop s).handed.occupancy = s.handed.occupancy ++ [false]) := by
  rw [takeEmergencyStop_notFault h]
  refine ⟨by simp, by simp, by simp, by simp, fun hline => ?_⟩
  have hcount := flushLine_occupancy (s := { allOff s with mc := { (allOff s).mc with cause := .estop } })
    (by simpa using hline)
  simpa [faultEntry, flushInto] using hcount

theorem takeEmergencyStop_mode (s : State) : (takeEmergencyStop s).mc.mode = .fault := by
  by_cases hfault : s.mc.mode = .fault
  · rw [(takeEmergencyStop_ofFault hfault).1, hfault]
  · rw [(takeEmergencyStop_ofNotFault hfault).1]

/-- The images and lanes of a bank after an emergency stop: those of a bank that is DISABLED in FAULT stay (R105, R107). -/
theorem takeEmergencyStop_images (s : State) (b : BankIx) :
    ((s.bank b).desc.kind ≠ .disabled ∨ s.mc.mode ≠ .fault →
        ((takeEmergencyStop s).bank b).composed = 0
          ∧ ∀ i : Fin 128, ((takeEmergencyStop s).bank b).lanes[i] =
            if (s.bank b).composed.getLsbD i.val = true then { (s.bank b).lanes[i] with onRun := 0, holdLeft := 0 }
            else (s.bank b).lanes[i])
      ∧ ((s.bank b).desc.kind = .disabled → s.mc.mode = .fault →
        ((takeEmergencyStop s).bank b).composed = (s.bank b).composed
          ∧ ((takeEmergencyStop s).bank b).lanes = (s.bank b).lanes)
      ∧ ((takeEmergencyStop s).bank b).latched = if (s.bank b).desc.kind ≠ .disabled then 0 else (s.bank b).latched := by
  rw [← BankUnit.stopped_latched, takeEmergencyStop_bank]
  by_cases hfault : s.mc.mode = .fault
  · rw [if_pos hfault]
    refine ⟨fun h => ?_, fun hk _ => ?_, rfl⟩
    · have hk := h.resolve_right (not_not.2 hfault)
      exact ⟨(BankUnit.stopped_inUse hk).1, BankUnit.stopped_lane hk⟩
    · rw [BankUnit.stopped_disabled hk]
      exact ⟨rfl, rfl⟩
  · rw [if_neg hfault]
    obtain ⟨-, -, hcomposed, hlatched, -⟩ := (s.bank b).faulted_frame
    exact ⟨fun _ => ⟨hcomposed, (s.bank b).faulted_lane⟩, fun _ h => absurd h hfault, hlatched⟩

/-- What an emergency stop leaves of a bank (R107, R108). -/
theorem takeEmergencyStop_bank_frame (s : State) (b : BankIx) :
    ((takeEmergencyStop s).bank b).desc = (s.bank b).desc ∧ ((takeEmergencyStop s).bank b).airLow = (s.bank b).airLow
      ∧ ((takeEmergencyStop s).bank b).inhibit = (s.bank b).inhibit
      ∧ ((takeEmergencyStop s).bank b).airReport = (s.bank b).airReport
      ∧ ((takeEmergencyStop s).bank b).holdEnd = (s.bank b).holdEnd
      ∧ (s.mc.mode = .fault → ((takeEmergencyStop s).bank b).mode = (s.bank b).mode
          ∧ ((takeEmergencyStop s).bank b).counters = (s.bank b).counters)
      ∧ ((takeEmergencyStop s).bank b).counters =
          { (s.bank b).counters with abandoned := ((takeEmergencyStop s).bank b).counters.abandoned } := by
  rw [takeEmergencyStop_bank]
  split
  · simp
  · obtain ⟨-, -, -, -, hdesc, hair, hinhibit, hreport, hend, hcounters⟩ := (s.bank b).faulted_frame
    exact ⟨hdesc, hair, hinhibit, hreport, hend, fun h => absurd h ‹_›, by rw [hcounters]⟩

/-- Settles O45: the banks by `stopped` and `faulted`, Port D by what the all-off frames find on its lane. -/
theorem emergencyStopTurnsEverythingOff : Obligations.EmergencyStopTurnsEverythingOff := by
  intro s used off hrun hused hoff
  obtain rfl : off = offFrame s := funext fun b => by rw [hoff, offFrame_eq]
  obtain rfl : used = fun b => decide ((s.bank b).desc.kind ≠ .disabled) :=
    funext fun b => by rw [Bool.eq_iff_iff, hused, decide_eq_true_eq]
  simp only [decide_eq_true_eq, decide_eq_false_iff_not, not_not]
  refine ⟨_, exec_emergencyStop hrun, ?_⟩
  obtain ⟨hmgmt, hportU⟩ := takeEmergencyStop_mgmt_portU { s with stopn := .asserted }
  obtain ⟨hsameU, hsame⟩ := raise_congr [.fault] (a := { s with stopn := .asserted }) (b := s) rfl rfl rfl
  replace hmgmt := hmgmt.trans hsame
  have himages := takeEmergencyStop_images { s with stopn := .asserted }
  have hbank := takeEmergencyStop_bank { s with stopn := .asserted }
  refine ⟨by simp, takeEmergencyStop_mode _, ?_, hmgmt, hportU.trans hsameU, fun hfault => ?_, fun hfault => ?_,
    fun b => (himages b).1, fun b => (himages b).2.1, fun b => (himages b).2.2, ?_, ?_, ?_, by simp, by simp, by simp, by simp, by simp,
    by simp, by simp, fun hfault => ?_, fun hfault hline => ?_, takeEmergencyStop_handed _, by simp, by simp, by simp,
    takeEmergencyStop_bank_frame _⟩
  · rw [hmgmt, raise_one, raiseOne_flags]
    rfl
  · obtain ⟨hmc, htrack, hhanded⟩ := takeEmergencyStop_ofFault (s := { s with stopn := .asserted }) hfault
    refine ⟨hmc, htrack, fun b => ⟨?_, congrArg (fun h => h.banks[b]) hhanded⟩⟩
    rw [hbank, if_pos hfault]
    obtain ⟨-, -, hwindows, -⟩ := (s.bank b).stopped_frame
    exact hwindows
  · obtain ⟨hmc, htrack, hmodes, hreports, -⟩ :=
      takeEmergencyStop_ofNotFault (s := { s with stopn := .asserted }) hfault
    refine ⟨hmc, htrack, hmodes, fun b => ?_⟩
    obtain ⟨hmode, hwindows, -, -, -, -, -, -, -, hcounters⟩ := (s.bank b).faulted_frame
    rw [hbank, if_neg hfault]
    refine ⟨hwindows, hreports b, hmode, ?_⟩
    rw [← satAdd_toNat]
    exact congrArg (fun c => c.abandoned.toNat) hcounters
  · intro hlinked hbusy
    rw [takeEmergencyStop_portD]
    exact ⟨allOff_portD_busy (s := { s with stopn := .asserted }) hlinked hbusy,
      allOff_overruns (s := { s with stopn := .asserted }) hlinked hbusy⟩
  · intro hlinked hidle
    rw [takeEmergencyStop_portD]
    exact ⟨fun b => allOff_portD_idle (s := { s with stopn := .asserted }) hlinked hidle,
      allOff_portD_unused (s := { s with stopn := .asserted })⟩
  · intro hlink
    rw [takeEmergencyStop_portD]
    exact allOff_portD_notLinked (s := { s with stopn := .asserted }) hlink
  · obtain ⟨-, -, hhanded⟩ := takeEmergencyStop_ofFault (s := { s with stopn := .asserted }) hfault
    exact hhanded
  · obtain ⟨-, -, -, -, hcount⟩ := takeEmergencyStop_ofNotFault (s := { s with stopn := .asserted }) hfault
    exact hcount hline

end Sys2Proof.Machine

/-! O54: READ STATUS field by field, and READ COUNTERS and CLEAR COUNTERS by group (R112, R171, R176 to R178, R193 to
R195). -/

namespace Sys2Proof.Machine

/-! ## Counters in bytes -/

theorem counterBytes_cons (c : Counter) (cs : List Counter) : counterBytes (c :: cs) = u32 c.toNat ++ counterBytes cs := rfl

theorem counterBytes_length (cs : List Counter) : (counterBytes cs).length = 4 * cs.length := by
  induction cs with
  | nil => rfl
  | cons c cs ih =>
    have hword : (u32 c.toNat).length = 4 := rfl
    rw [counterBytes_cons, List.length_append, ih, hword, List.length_cons]
    omega

/-- The k-th counter stands in the k-th four bytes; past the last there is nothing (R195). -/
theorem fld_counterBytes (cs : List Counter) (k : Nat) : fld (counterBytes cs) (4 * k) 4 = (cs.getD k 0).toNat := by
  induction cs generalizing k with
  | nil => simp [counterBytes, fld, be]
  | cons c cs ih =>
    rw [counterBytes_cons]
    cases k with
    | zero => exact fld_u32_of_lt c.isLt
    | succ k =>
      rw [fld_u32_skip (by omega), show 4 * (k + 1) - 4 = 4 * k by omega, ih]
      rfl

/-! ## The bytes of a READ STATUS -/

/-- A reason of the hold set is a bit of its byte (R195). -/
theorem HoldSet.code_bit (h : HoldSet) {k : Nat} (hk : k < 8) : (BitVec.ofNat 8 h.code).getLsbD k =
    [h.mode, h.occupancy, h.blind, h.actuator, h.air, h.operator].getD k false := by
  obtain ⟨mode, occupancy, blind, actuator, air, operator⟩ := h
  unfold HoldSet.code
  revert mode occupancy blind actuator air operator k
  decide

/-- The bytes of a READ STATUS before the proving result. -/
def statusHead (s : State) : List Byte :=
  [u8 s.mc.mode.code, u8 s.mc.cause.code, optPos s.mc.blindStart, optPos s.mc.blindEnd, u8 s.portU.link.state.code,
   yesNo s.portU.link.warning, u8 s.portD.link.state.code, yesNo s.portD.link.warning, u32 s.pos.tp.toNat,
   u32 s.pos.e.toNat, u16 s.pos.w, u8 s.pos.stall.code, u16 s.track.length, bankStatusBytes s.banks[0],
   bankStatusBytes s.banks[1], bankStatusBytes s.banks[2], bankStatusBytes s.banks[3], u8 s.station.band.val,
   u32 s.station.b, u16 s.station.setpoint, u8 s.station.holds.code, u8 s.station.command.code,
   u16 s.mgmt.flags.toNat, u16 s.mgmt.mask.toNat].flatten

theorem statusBytes_eq (s : State) : statusBytes s = statusHead s ++ provingBytes s.proving.result := by
  simp [statusBytes, statusHead]

theorem statusHead_length (s : State) : (statusHead s).length = 62 := by
  simp [statusHead, bankStatusBytes, optPos_eq, yesNo, u8, u16, u32, u24]

theorem provingBytes_length (r : Option ProvingResult) : (provingBytes r).length = 11 := by
  cases r <;> rfl

theorem statusBytes_length (s : State) : (statusBytes s).length = 73 := by
  rw [statusBytes_eq, List.length_append, statusHead_length, provingBytes_length]

theorem optPos_present (p : Option (BitVec 32)) : BitVec.ofNat 8 p.isSome.toNat = if p = none then 0 else 1 := by
  cases p <;> rfl

theorem optPos_value (p : Option (BitVec 32)) : (match p with
    | none => 0
    | some v => v.toNat) % 4294967296 = match p with
    | none => 0
    | some v => v.toNat := by
  cases p with
  | none => rfl
  | some v => exact Nat.mod_eq_of_lt v.isLt

/-- The fields of a READ STATUS before the proving result (R195). -/
theorem status_layout (s : State) :
    (statusBytes s).getD 0 0 = (match s.mc.mode with
        | .standby => 0
        | .run => 1
        | .drain => 2
        | .test => 3
        | .fault => 4)
      ∧ (statusBytes s).getD 1 0 = (match s.mc.cause with
        | .none => 0
        | .estop => 1
        | .encoder => 2
        | .reverse => 3)
      ∧ (statusBytes s).getD 2 0 = (if s.mc.blindStart = none then 0 else 1)
      ∧ fld (statusBytes s) 3 4 = (match s.mc.blindStart with
        | none => 0
        | some v => v.toNat)
      ∧ (statusBytes s).getD 7 0 = (if s.mc.blindEnd = none then 0 else 1)
      ∧ fld (statusBytes s) 8 4 = (match s.mc.blindEnd with
        | none => 0
        | some v => v.toNat)
      ∧ (∀ (p : PortId) (i : Nat), i = (match p with
          | .u => 12
          | .d => 14) →
        (statusBytes s).getD i 0 = (match (s.link p).state with
          | .down => 0
          | .training => 1
          | .linked => 2
          | .proving => 3)
          ∧ (statusBytes s).getD (i + 1) 0 = (if (s.link p).warning then 1 else 0))
      ∧ fld (statusBytes s) 16 4 = s.pos.tp.toNat ∧ fld (statusBytes s) 20 4 = s.pos.e.toNat
      ∧ fld (statusBytes s) 24 2 = s.pos.w % 65536
      ∧ (statusBytes s).getD 26 0 = (if s.pos.stall = .moving then 0 else 1)
      ∧ fld (statusBytes s) 27 2 = s.track.length % 65536
      ∧ (∀ b : BankIx, fld (statusBytes s) (29 + 5 * b.val) 2 = (s.bank b).windows.length % 65536
        ∧ fld (statusBytes s) (31 + 5 * b.val) 2 = (s.bank b).airLow % 65536
        ∧ (statusBytes s).getD (33 + 5 * b.val) 0 = (if (s.bank b).inhibit then 1 else 0))
      ∧ ((statusBytes s).getD 49 0).toNat = s.station.band.val
      ∧ fld (statusBytes s) 50 4 = s.station.b % 4294967296
      ∧ fld (statusBytes s) 54 2 = s.station.setpoint % 65536
      ∧ (∀ k, k < 8 → ((statusBytes s).getD 56 0).getLsbD k =
        [s.station.holds.mode, s.station.holds.occupancy, s.station.holds.blind, s.station.holds.actuator,
          s.station.holds.air, s.station.holds.operator].getD k false)
      ∧ (statusBytes s).getD 57 0 = (if s.station.command = .release then 0 else 1)
      ∧ fld (statusBytes s) 58 2 = s.mgmt.flags.toNat ∧ fld (statusBytes s) 60 2 = s.mgmt.mask.toNat := by
  have hports {P : PortId → Nat → Prop} : (∀ (p : PortId) (i : Nat), i = (match p with
      | .u => 12
      | .d => 14) → P p i) ↔ P .u 12 ∧ P .d 14 := by
    constructor
    · exact fun h => ⟨h .u 12 rfl, h .d 14 rfl⟩
    · rintro ⟨hu, hd⟩ p i rfl
      cases p
      · exact hu
      · exact hd
  have hbanks {P : BankIx → Prop} : (∀ b, P b) ↔ P 0 ∧ P 1 ∧ P 2 ∧ P 3 :=
    ⟨fun h => ⟨h 0, h 1, h 2, h 3⟩, fun ⟨h0, h1, h2, h3⟩ b => by fin_cases b <;> assumption⟩
  rw [hports, hbanks]
  have hthree : (3 : BankIx).val = 3 := rfl
  simp only [statusBytes, bankStatusBytes, optPos_eq, yesNo, List.flatten_cons, List.flatten_nil, List.append_nil,
    List.append_assoc, fld_u8_skip, fld_u16_skip, fld_u32_skip, getD_u8_skip, getD_u16_skip, getD_u32_skip, fld_u16_head,
    fld_u32_head, getD_u8_head, Nat.reduceLeDiff, Nat.reduceSub, Nat.reduceAdd, Nat.reduceMul, Fin.isValue, Fin.val_zero,
    Fin.val_one, Fin.val_two, hthree]
  have hband : s.station.band.val < 256 := by omega
  have hflags : s.mgmt.flags.toNat < 65536 := by omega
  have hmask : s.mgmt.mask.toNat < 65536 := by omega
  refine ⟨?_, ?_, optPos_present _, optPos_value _, optPos_present _, optPos_value _,
    ⟨⟨?_, ofNat_bool _⟩, ?_, ofNat_bool _⟩, Nat.mod_eq_of_lt s.pos.tp.isLt, Nat.mod_eq_of_lt s.pos.e.isLt, trivial, ?_,
    trivial, ⟨⟨rfl, rfl, ofNat_bool _⟩, ⟨rfl, rfl, ofNat_bool _⟩, ⟨rfl, rfl, ofNat_bool _⟩, rfl, rfl, ofNat_bool _⟩,
    byte_toNat hband, trivial, trivial, fun k hk => s.station.holds.code_bit hk, ?_, Nat.mod_eq_of_lt hflags,
    Nat.mod_eq_of_lt hmask⟩
  · cases s.mc.mode <;> rfl
  · cases s.mc.cause <;> rfl
  · show BitVec.ofNat 8 (s.link .u).state.code = _
    cases (s.link .u).state <;> rfl
  · show BitVec.ofNat 8 (s.link .d).state.code = _
    cases (s.link .d).state <;> rfl
  · cases s.pos.stall <;> rfl
  · cases s.station.command <;> rfl

/-- The proving result of a READ STATUS (R194, R195). -/
theorem status_proving (s : State) :
    (s.proving.result = none → (statusBytes s).drop 62 = List.replicate 11 0)
      ∧ ∀ v : ProvingResult, s.proving.result = some v →
        (statusBytes s).getD 62 0 = 1
          ∧ (statusBytes s).getD 63 0 = (if v.port = .u then 0 else 1)
          ∧ (statusBytes s).getD 64 0 = (if v.role = .generate then 0 else 1)
          ∧ fld (statusBytes s) 65 2 = v.duration % 65536 ∧ fld (statusBytes s) 67 4 = v.mismatches.toNat
          ∧ (statusBytes s).getD 71 0 = (if v.errorSeen then 1 else 0)
          ∧ (statusBytes s).getD 72 0 = (match v.status with
            | .running => 0
            | .generated => 1
            | .noPattern => 2
            | .clean => 3
            | .errors => 4) := by
  have hhead := statusHead_length s
  rw [statusBytes_eq]
  refine ⟨fun hnone => ?_, fun v hv => ?_⟩
  · rw [List.drop_left' hhead, hnone]
    rfl
  · simp only [hv, provingBytes, yesNo, List.append_assoc, fld_skip hhead, getD_skip hhead, fld_u8_skip, fld_u16_skip,
      getD_u8_skip, getD_u16_skip, getD_u32_skip, fld_u16_head, fld_u32_head, getD_u8_head, getD_u8,
      Nat.reduceLeDiff, Nat.reduceSub]
    refine ⟨rfl, ?_, ?_, trivial, Nat.mod_eq_of_lt v.mismatches.isLt, ofNat_bool _, ?_⟩
    · cases v.port <;> rfl
    · cases v.role <;> rfl
    · cases v.status <;> rfl

/-! ## READ COUNTERS and CLEAR COUNTERS -/

theorem groupCounters_bank (b : BankIx) (s : State) :
    groupCounters .bank b.val s = some (s.bank b).counters.list :=
  dif_pos b.isLt

theorem groupCounters_noBank {bank : Nat} (h : 3 < bank) (s : State) : groupCounters .bank bank s = none :=
  dif_neg (Nat.not_lt.2 h)

theorem clearGroup_bank (b : BankIx) (s : State) :
    clearGroup .bank b.val s = some (s.setBank b { s.bank b with
      counters := { BankCounters.zero with created := BitVec.ofNat 32 (s.bank b).windows.length } }) :=
  dif_pos b.isLt

theorem clearGroup_noBank {bank : Nat} (h : 3 < bank) (s : State) : clearGroup .bank bank s = none :=
  dif_neg (Nat.not_lt.2 h)

theorem readCountersAct_some {g : GroupId} {bank : Nat} {s : State} {cs : List Counter}
    (h : groupCounters g bank s = some cs) :
    readCountersAct g bank s = (s, ⟨.ok, u8 g.code ++ u8 bank ++ counterBytes cs⟩) := by
  unfold readCountersAct reads
  dsimp only
  rw [h]
  rfl

theorem readCountersAct_none {g : GroupId} {bank : Nat} {s : State} (h : groupCounters g bank s = none) :
    readCountersAct g bank s = (s, ⟨.index, []⟩) := by
  unfold readCountersAct reads
  dsimp only
  rw [h]
  rfl

theorem clearCountersAct_some {g : GroupId} {bank : Nat} {s t : State} (h : clearGroup g bank s = some t) :
    clearCountersAct g bank s = (t, ⟨.ok, []⟩) := by
  unfold clearCountersAct
  rw [h]
  rfl

theorem clearCountersAct_none {g : GroupId} {bank : Nat} {s : State} (h : clearGroup g bank s = none) :
    clearCountersAct g bank s = (s, ⟨.index, []⟩) := by
  unfold clearCountersAct
  rw [h]
  rfl

theorem sameOutsidePorts_clearLink (s : State) : SameOutsidePorts s (clearLink s) :=
  ⟨rfl, rfl, rfl, rfl, rfl, rfl, rfl, rfl, rfl, rfl, rfl, rfl, rfl, rfl, rfl⟩

/-- Settles O54: the bytes by `status_layout` and `status_proving`, the counters group by group. -/
theorem statusAndCounterRequests : Obligations.StatusAndCounterRequests := by
  refine ⟨fun cs k => ⟨counterBytes_length cs, fld_counterBytes cs k⟩, fun c => rfl, fun c => rfl, fun s => rfl,
    fun s r rest hs hd => ⟨serve_answers hs (by rw [hd]) rfl, ?_⟩, fun s r rest g bank hs hd => ?_,
    fun s r rest g bank hs hd => ?_⟩
  · rintro bytes rfl
    obtain ⟨hmode, hcause, hbegins, hbegin, hends, hend, hports, htp, he, hw, hstall, hitems, hbanks, hband, hb, hrotor,
      hholds, hfeeder, hflags, hmask⟩ := status_layout s
    exact ⟨statusBytes_length s, hmode, hcause, hbegins, hbegin, hends, hend, hports, htp, he, hw, hstall, hitems, hbanks,
      hband, hb, hrotor, hholds, hfeeder, hflags, hmask, status_proving s⟩
  · refine ⟨?_, ?_, ?_, ?_, ?_⟩
    · rintro rfl
      exact serve_answers hs (by rw [hd]) (readCountersAct_some rfl)
    · rintro set rfl
      refine serve_answers hs (by rw [hd]) ((readCountersAct_some rfl).trans ?_)
      fin_cases set <;> rfl
    · rintro b rfl rfl
      exact serve_answers hs (by rw [hd]) (readCountersAct_some (groupCounters_bank b s))
    · rintro rfl hbank
      exact serve_answers hs (by rw [hd]) (readCountersAct_none (groupCounters_noBank hbank s))
    · rintro rfl
      exact serve_answers hs (by rw [hd]) (readCountersAct_some rfl)
  · refine ⟨?_, ?_, ?_, ?_, ?_⟩
    · rintro rfl
      exact serve_answers hs (by rw [hd]) (clearCountersAct_some rfl)
    · rintro set rfl
      exact serve_answers hs (by rw [hd]) (clearCountersAct_some rfl)
    · rintro b rfl rfl
      exact serve_answers hs (by rw [hd]) (clearCountersAct_some (clearGroup_bank b s))
    · rintro rfl hbank
      exact serve_answers hs (by rw [hd]) (clearCountersAct_none (clearGroup_noBank hbank s))
    · rintro rfl
      refine ⟨clearLink s, serve_answers hs (by rw [hd]) (clearCountersAct_some rfl), rfl, sameOutsidePorts_clearLink s,
        rfl, rfl, rfl, rfl, rfl, rfl, rfl, rfl, rfl, fun p => ?_⟩
      cases p <;> exact ⟨rfl, rfl, rfl, rfl, rfl, rfl, rfl⟩

end Sys2Proof.Machine

/-! O15, O42, O43: the Station Controller's frames, the changes of mode it takes, its ring and its band (R113, R114, R117,
R118, R121, R123, R125 to R127, R131). -/

namespace Sys2Proof.Machine

/-! ## DRIVE frames and the feeder command -/

/-- The feeder's DRIVE frame says whether the feeder holds (R131, R190). -/
theorem driveFrame_feeder (st : Station) :
    driveFrame .feeder (st.node .feeder) (st.value .feeder) =
      ⟨BitVec.ofNat 6 st.entry.feederNode, .drive, [3, 0, if st.command = .hold then 1 else 0]⟩ := by
  cases h : st.command <;> simp [driveFrame, Station.node, Station.value, StationId.code, u8, u16, h]

theorem issueDrive_notLinked {i : StationId} {s : State} (h : (s.link .d).state ≠ .linked) : issueDrive i s = s :=
  if_neg (mt (State.linked_iff s .d).1 h)

theorem issueDrive_linked {i : StationId} {s : State} (h : (s.link .d).state = .linked) :
    issueDrive i s = offerForward { s with portD := { s.portD with
      drive := s.portD.drive.filter (fun x => x.1 ≠ i)
        ++ [(i, driveFrame i (s.station.node i) (s.station.value i))] } } :=
  if_pos ((State.linked_iff s .d).2 h)

/-- A new hold-reason set with the command it gives: a change of the command sends its frame (R125). -/
theorem setHolds_eq {h : HoldSet} {c : FeederCommand}
    (hc : c = .hold ↔ (h.mode || h.occupancy || h.blind || h.actuator || h.air || h.operator) = true) (s : State) :
    setHolds h s =
      if c = s.station.command then s.setStation { s.station with holds := h, command := c }
      else issueDrive .feeder (s.setStation { s.station with holds := h, command := c }) := by
  rw [HoldSet.eq_command hc]
  rfl

/-- Settles O15: the frames station by station, the feeder command by `setHolds_eq`. -/
theorem driveFramesAndTheFeederCommand : Obligations.DriveFramesAndTheFeederCommand := by
  refine ⟨fun i s => ⟨issueDrive_notLinked, fun h => ?_⟩, fun h s c hc => setHolds_eq hc s⟩
  rw [issueDrive_linked h]
  cases i with
  | rotor => rfl
  | splitter => rfl
  | feeder => simp only [driveFrame_feeder]

/-! ## Changes of mode -/

/-- The feeder's frame does not carry the splitter's position (R131), so the splitter may be set before the hold-reason
set. -/
theorem setHolds_setSplitter (h : HoldSet) (s : State) (x : Nat) :
    (setHolds h s).setStation { (setHolds h s).station with splitter := x } =
      setHolds h (s.setStation { s.station with splitter := x }) := by
  rw [setHolds_station]
  by_cases hc : h.command = s.station.command
  · have hkept : setHolds h s = s.setStation (s.station.settle h) := if_pos hc
    rw [hkept]
    exact (if_pos hc).symm
  · have hsent : setHolds h s = issueDrive .feeder (s.setStation (s.station.settle h)) := if_neg hc
    rw [hsent]
    exact (issueDrive_setStation .feeder (s.setStation (s.station.settle h))
      (x := { s.station.settle h with splitter := x }) rfl rfl).symm.trans (if_neg hc).symm

/-- The Station Controller after a change of mode, but for the feeder: MODE, the rotor target, and on entry into RUN the
splitter (R121, R123, R126). -/
def Station.enterMode (st : Station) (m : Mode) : Station :=
  { ({ st with mode := m } : Station).retarget with
    splitter := if m = .run then st.bands[st.band].split else st.splitter }

/-- The hold reasons after a change of mode (R126, R127). -/
def Station.holdsIn (st : Station) (m : Mode) : HoldSet :=
  { st.holds with mode := decide (m ≠ .run), blind := decide (m = .run) && !st.portULinked }

theorem takeStationMode_eq (m : Mode) (s : State) :
    takeStationMode m s =
      if m = .run then issueDrive .splitter (setHolds (s.station.holdsIn m) (s.setStation (s.station.enterMode m)))
      else setHolds (s.station.holdsIn m) (s.setStation (s.station.enterMode m)) := by
  unfold takeStationMode Station.enterMode
  dsimp only
  split
  · unfold commandSplitter
    rw [setHolds_setSplitter]
    simp only [setHolds_station]
    rfl
  · rfl

theorem exec_stationModeChange {s : State} {m : Mode} {rest : List Mode} (hs : s.inReset = false)
    (h : s.handed.stationModes = m :: rest) :
    exec .stationModeChange s =
      .next (takeStationMode m { s with handed := { s.handed with stationModes := rest } }) := by
  simp only [exec, execStationModeChange, whenRunning_running _ hs, h]

/-- Settles O43: the hold reasons by `setHolds_eq`, with the splitter set before the feeder's frame. -/
theorem stationTakesChangesOfMode : Obligations.StationTakesChangesOfMode := by
  intro s m rest h c t hs hm hh hc ht
  have hfeeder : setHolds h
      (({ s with handed := { s.handed with stationModes := rest } } : State).setStation (s.station.enterMode m))
        = if c = s.station.command then t else issueDrive .feeder t := by
    rw [setHolds_eq hc, ht]
    simp only [Station.enterMode, Station.retarget, targetOf_eq]
    rfl
  rw [exec_stationModeChange hs hm, takeStationMode_eq]
  subst hh
  refine ⟨fun hne => ?_, fun hrun => ?_⟩
  · rw [if_neg hne]
    exact congrArg _ hfeeder
  · rw [if_pos hrun]
    exact congrArg (fun u => Host.Outcome.next (issueDrive .splitter u)) hfeeder

/-! ## The burden ring and the band -/

/-- The ring after a crossing: the seven closed segments and their sum (R113, R114). -/
theorem advance_eq {st : Station} {closed : Vector Nat 7}
    (h : closed.toList = st.current :: st.closed.toList.dropLast) :
    st.advance = { st with current := 0, closed := closed, b := closed.toList.sum } := by
  have hclosed : (Vector.ofFn fun i : Fin 7 => if h : i.val = 0 then st.current else st.closed[i.val - 1]) = closed := by
    apply Vector.ext
    intro i hi
    have hentry : closed[i] = closed.toList[i]'(by simpa using hi) := by simp
    cases i with
    | zero => simp [hentry, h]
    | succ i => simp [hentry, h]
  simp only [Station.advance, hclosed, ringSum, Nat.zero_add]

/-- The band is judged against the next threshold, else against its own less the hysteresis (R117). -/
theorem judge_eq {st : Station} {band : Fin 8} {rise fall : Prop}
    (hrise : rise ↔ st.band.val < 7 ∧ (st.bands.toList.getD (st.band.val + 1) ⟨0, 0, 0⟩).t ≤ st.b)
    (hfall : fall ↔ 0 < st.band.val ∧ st.b < st.bands[st.band].t - st.entry.h)
    (hup : rise → band.val = st.band.val + 1) (hdown : ¬ rise → fall → band.val + 1 = st.band.val)
    (hstay : ¬ rise → ¬ fall → band = st.band) : st.judge = band := by
  have hnext : ∀ h : st.band.val < 7,
      (st.bands.toList.getD (st.band.val + 1) ⟨0, 0, 0⟩).t = st.bands[st.band.val + 1].t := by
    intro h
    rw [List.getD_eq_getElem _ _ (by rw [Vector.length_toList]; omega), Vector.getElem_toList]
  by_cases hr : rise
  · obtain ⟨h7, ht⟩ := hrise.1 hr
    rw [hnext h7] at ht
    simp only [Station.judge, dif_pos h7, if_pos ht]
    exact Fin.ext (hup hr).symm
  · have hnot : st.judge =
        if 0 < st.band.val ∧ st.b < st.bands[st.band].t - st.entry.h then ⟨st.band.val - 1, by omega⟩ else st.band := by
      unfold Station.judge
      split
      · rename_i h7
        exact if_neg fun ht => hr (hrise.2 ⟨h7, (hnext h7).trans_le ht⟩)
      · rfl
    rw [hnot]
    split
    · rename_i hf
      have hval := hdown hr (hfall.2 hf)
      exact Fin.ext (Nat.sub_eq_of_eq_add hval.symm)
    · rename_i hf
      exact (hstay hr (mt hfall.1 hf)).symm

theorem exec_burdenContribution {s : State} {n : Nat} {rest : List Nat} (hs : s.inReset = false)
    (h : s.handed.burden = n :: rest) :
    exec .burdenContribution s =
      .next { s with station := s.station.contribute n, handed := { s.handed with burden := rest } } := by
  simp only [exec, execBurdenContribution, whenRunning_running _ hs, h]

theorem exec_ringAdvance {s : State} (hs : s.inReset = false) (h : 0 < s.handed.ring) :
    exec .ringAdvance s = .next (advanceRing { s with handed := { s.handed with ring := s.handed.ring - 1 } }) := by
  simp only [exec, execRingAdvance, whenRunning_running _ hs, if_neg (Nat.ne_of_gt h)]

/-- What an advance of the ring does with the band it is judged to: kept, changed, or changed in RUN or DRAIN (R114, R117,
R118, R123). -/
theorem advanceRing_cases {s : State} {st : Station} {band : Fin 8} (hst : s.station.advance = st)
    (hband : st.judge = band) :
    (band = st.band → advanceRing s = s.setStation st)
      ∧ (band ≠ st.band → st.mode.firing = false →
        advanceRing s = s.setStation ({ st with band := band } : Station).retarget)
      ∧ (band ≠ st.band → st.mode.firing = true →
        advanceRing s = commandSplitter (s.setStation ({ st with band := band } : Station).retarget)) := by
  subst hst hband
  refine ⟨fun h => if_pos h, fun h hf => ?_, fun h hf => ?_⟩
  · exact (if_neg h).trans (if_neg (by simp [hf]))
  · exact (if_neg h).trans (if_pos hf)

/-- Settles O42: the contribution by its definition; the ring by `advance_eq`, the band by `judge_eq`, and what follows a
change of band by `advanceRing_cases`. -/
theorem burdenRingAndBand : Obligations.BurdenRingAndBand := by
  refine ⟨fun s n rest hs h => exec_burdenContribution hs h,
    fun s closed b rise fall band st hs hring hclosed hb hrise hfall hup hdown hstay hst => ?_⟩
  subst hb
  have hadvance : s.station.advance = st := (advance_eq hclosed).trans hst.symm
  have hjudge : st.judge = band := by
    subst hst
    exact judge_eq hrise hfall hup hdown hstay
  obtain ⟨hsame, hidle, hfires⟩ := advanceRing_cases
    (s := { s with handed := { s.handed with ring := s.handed.ring - 1 } }) hadvance hjudge
  rw [exec_ringAdvance hs hring]
  subst hst
  refine ⟨fun h => congrArg _ (hsame h), fun h hrun hdrain => ?_, fun h hmode => ?_⟩
  · have hf : s.station.mode.firing = false := by simp [← Bool.not_eq_true, firing_iff, hrun, hdrain]
    rw [hidle h hf]
    simp only [Station.retarget, targetOf_eq, hrun, hdrain, or_self, if_false]
    rfl
  · rw [hfires h ((firing_iff _).2 hmode)]
    simp only [Station.retarget, targetOf_eq, if_pos hmode]
    rfl

end Sys2Proof.Machine

/-! O8: the burden ring, the speed and the rotor keep their relations (R7, R9, R113, R121, R122). -/

namespace Sys2Proof.Machine

/-! ## A value pushed in front of a vector -/

/-- A bound on a vector and on the value that is pushed in front of it, its last one dropped (R7, R114). -/
theorem le_of_mem_push {n a bound : Nat} {v : Vector Nat n} (ha : a ≤ bound) (hv : ∀ x ∈ v.toList, x ≤ bound) :
    ∀ x ∈ (Vector.ofFn fun i : Fin n => if _ : i.val = 0 then a else v[i.val - 1]).toList, x ≤ bound := by
  intro x hx
  obtain ⟨i, rfl⟩ := List.mem_ofFn.1 (Vector.toList_ofFn ▸ hx)
  split
  · exact ha
  · exact hv _ (by simp)

/-! ## The burden ring -/

/-- The relation of the ring reads the current segment, the closed ones and B (R113). -/
theorem BurdenInv.same {s t : State} (h : BurdenInv s)
    (hring : t.station.current = s.station.current ∧ t.station.closed = s.station.closed ∧ t.station.b = s.station.b) :
    BurdenInv t := by
  obtain ⟨hcurrent, hclosed, hb⟩ := hring
  unfold BurdenInv
  rwa [hcurrent, hclosed, hb]

theorem BurdenInv.contribute {s t : State} (h : BurdenInv s) {n : Nat} (ht : t.station = s.station.contribute n) :
    BurdenInv t := by
  obtain ⟨-, -, hclosed⟩ := h
  unfold BurdenInv
  rw [ht]
  exact ⟨rfl, Nat.min_le_right _ _, hclosed⟩

theorem BurdenInv.advance {s t : State} (h : BurdenInv s) (hcurrent : t.station.current = s.station.advance.current)
    (hclosed : t.station.closed = s.station.advance.closed) (hb : t.station.b = s.station.advance.b) : BurdenInv t := by
  obtain ⟨-, hmax, hold⟩ := h
  unfold BurdenInv
  rw [hcurrent, hclosed, hb]
  exact ⟨rfl, Nat.zero_le _, le_of_mem_push hmax hold⟩

theorem burdenInv_of_empty {s : State}
    (h : s.station.current = 0 ∧ s.station.closed = Vector.replicate 7 0 ∧ s.station.b = 0) : BurdenInv s := by
  obtain ⟨hcurrent, hclosed, hb⟩ := h
  unfold BurdenInv
  rw [hcurrent, hclosed, hb]
  decide

/-! ## The rotor -/

theorem clamp_bounds (x : Nat) {lo hi : Nat} (h : lo ≤ hi) : lo ≤ clamp x lo hi ∧ clamp x lo hi ≤ hi := by
  unfold clamp
  split <;> [skip; split] <;> omega

/-- A setpoint that moves toward a target stays between bounds that hold both (R122). -/
theorem slewed_bounds {st : Station} {lo hi : Nat} (hs : lo ≤ st.setpoint ∧ st.setpoint ≤ hi)
    (ht : lo ≤ st.target ∧ st.target ≤ hi) : lo ≤ st.slewed ∧ st.slewed ≤ hi := by
  unfold Station.slewed
  split <;> split <;> omega

theorem rotorRange_le {e : StationEntry} (h : e.inRange = true) : e.rotMin ≤ e.rotMax := by
  simp only [StationEntry.inRange, Bool.and_eq_true, decide_eq_true_eq] at h
  omega

/-- The relation of the rotor, with the target as `targetOf` gives it (R121). -/
theorem rotorInv_iff (s : State) :
    RotorInv s ↔ s.station.entry.inRange = true ∧ s.station.entry.rotMin ≤ s.station.setpoint
      ∧ s.station.setpoint ≤ s.station.entry.rotMax ∧ s.station.target = s.station.targetOf := by
  rw [targetOf_eq]
  rfl

/-- The target recomputed for any mode, band and table of bands, with the entry and the setpoint kept (R121). -/
theorem RotorInv.retarget {s t : State} (h : RotorInv s) (hentry : t.station.entry = s.station.entry)
    (hsetpoint : t.station.setpoint = s.station.setpoint) (htarget : t.station.target = t.station.targetOf) :
    RotorInv t := by
  obtain ⟨hrange, hlow, hhigh, -⟩ := h
  rw [rotorInv_iff, hentry, hsetpoint]
  exact ⟨hrange, hlow, hhigh, htarget⟩

/-- The relation of the rotor reads the entry, the setpoint, the target, and what the target follows from (R121). -/
theorem RotorInv.same {s t : State} (h : RotorInv s)
    (hrotor : t.station.entry = s.station.entry ∧ t.station.setpoint = s.station.setpoint
      ∧ t.station.target = s.station.target ∧ t.station.mode = s.station.mode ∧ t.station.band = s.station.band
      ∧ t.station.bands = s.station.bands) : RotorInv t := by
  obtain ⟨hentry, hsetpoint, htarget, hmode, hband, hbands⟩ := hrotor
  obtain ⟨-, -, -, hold⟩ := (rotorInv_iff s).1 h
  refine h.retarget hentry hsetpoint ?_
  rw [htarget, hold]
  simp only [Station.targetOf, hentry, hmode, hband, hbands]

theorem RotorInv.slew {s t : State} (h : RotorInv s)
    (ht : t.station = { s.station with setpoint := s.station.slewed }) : RotorInv t := by
  obtain ⟨hrange, hlow, hhigh, htarget⟩ := (rotorInv_iff s).1 h
  have hbounds : s.station.entry.rotMin ≤ s.station.target ∧ s.station.target ≤ s.station.entry.rotMax := by
    rw [htarget]
    exact clamp_bounds _ (rotorRange_le hrange)
  obtain ⟨hmin, hmax⟩ := slewed_bounds ⟨hlow, hhigh⟩ hbounds
  rw [rotorInv_iff, ht]
  exact ⟨hrange, hmin, hmax, htarget⟩

/-- A STATION entry within its ranges, with the setpoint clamped into them (R119, R120). -/
theorem rotorInv_written {s t : State} {e : StationEntry} (he : e.inRange = true)
    (ht : t.station = s.station.written e) : RotorInv t := by
  obtain ⟨hmin, hmax⟩ := clamp_bounds s.station.setpoint (rotorRange_le he)
  rw [rotorInv_iff, ht]
  exact ⟨he, hmin, hmax, rfl⟩

/-! ## The speed -/

/-- W, the history and C stay, the bin and the illegal-transition count are within their widths (R2, R6). -/
theorem SpeedInv.count {s t : State} (h : SpeedInv s)
    (hspeed : t.pos.w = s.pos.w ∧ t.pos.c = s.pos.c ∧ t.pos.history = s.pos.history
      ∧ t.mgmt.line.slotUs = s.mgmt.line.slotUs)
    (hbin : s.pos.bin ≤ 65535 → t.pos.bin ≤ 65535) (hillegal : s.pos.illegal ≤ 255 → t.pos.illegal ≤ 255) :
    SpeedInv t := by
  obtain ⟨hw, hc, hold, hentries, hcount⟩ := h
  obtain ⟨hw', hc', hhistory, hslot⟩ := hspeed
  unfold SpeedInv
  rw [hw', hc', hhistory, hslot]
  exact ⟨hw, hc, hbin hold, hentries, hillegal hcount⟩

theorem SpeedInv.same {s t : State} (h : SpeedInv s) (hpos : t.pos = s.pos) (hline : t.mgmt.line = s.mgmt.line) :
    SpeedInv t := by
  unfold SpeedInv
  rwa [hpos, hline]

theorem SpeedInv.closeBin {s t : State} (h : SpeedInv s) (hpos : t.pos = closeBin s.mgmt.line s.pos)
    (hline : t.mgmt.line = s.mgmt.line) : SpeedInv t := by
  obtain ⟨-, -, hbin, hentries, hcount⟩ := h
  unfold SpeedInv
  rw [hpos, hline]
  exact ⟨rfl, rfl, Nat.zero_le _, le_of_mem_push hbin hentries, hcount⟩

/-- A LINE write recomputes C when slot_us changes, and keeps C when it does not (R9). -/
theorem SpeedInv.applyLine {s : State} (h : SpeedInv s) (e : LineEntry) : SpeedInv (applyLine e s) := by
  obtain ⟨hw, hc, hbin, hentries, hcount⟩ := h
  rw [applyLine_eq]
  refine ⟨hw, ?_, hbin, hentries, hcount⟩
  dsimp only
  split
  · rename_i hslot
    rw [hslot, hc]
  · rfl

/-! ## What keeps the three relations -/

/-- A change of the state that keeps the relations of the ring, of the speed and of the rotor, each by itself. -/
structure KeepsMotion (s t : State) : Prop where
  burden : BurdenInv s → BurdenInv t
  speed : SpeedInv s → SpeedInv t
  rotor : RotorInv s → RotorInv t

namespace KeepsMotion

theorem trans {s t u : State} (h : KeepsMotion s t) (h' : KeepsMotion t u) : KeepsMotion s u :=
  ⟨fun hi => h'.burden (h.burden hi), fun hi => h'.speed (h.speed hi), fun hi => h'.rotor (h.rotor hi)⟩

/-- A change at the Station Controller alone. -/
theorem of_station {s t : State} (hbelt : t.pos = s.pos ∧ t.mgmt.line = s.mgmt.line) (hb : BurdenInv s → BurdenInv t)
    (hr : RotorInv s → RotorInv t) : KeepsMotion s t := by
  obtain ⟨hpos, hline⟩ := hbelt
  exact ⟨hb, fun h => h.same hpos hline, hr⟩

/-- A change that leaves the Station Controller alone. -/
theorem of_belt {s t : State} (hstation : t.station = s.station) (hs : SpeedInv s → SpeedInv t) : KeepsMotion s t :=
  ⟨fun h => h.same (by simp [hstation]), hs, fun h => h.same (by simp [hstation])⟩

theorem of_same {s t : State} (h : t.station = s.station ∧ t.pos = s.pos ∧ t.mgmt.line = s.mgmt.line) :
    KeepsMotion s t := by
  obtain ⟨hstation, hpos, hline⟩ := h
  exact .of_belt hstation fun hi => hi.same hpos hline

@[simp] theorem refl (s : State) : KeepsMotion s s := .of_same ⟨rfl, rfl, rfl⟩

/-- A change that leaves the ring alone and recomputes the target (R121). -/
theorem of_retarget {s t : State} (hbelt : t.pos = s.pos ∧ t.mgmt.line = s.mgmt.line)
    (hring : t.station.current = s.station.current ∧ t.station.closed = s.station.closed ∧ t.station.b = s.station.b)
    (hentry : t.station.entry = s.station.entry) (hsetpoint : t.station.setpoint = s.station.setpoint)
    (htarget : t.station.target = t.station.targetOf) : KeepsMotion s t :=
  .of_station hbelt (fun h => h.same hring) fun h => h.retarget hentry hsetpoint htarget

/-- Serving a request keeps the relations when the request does: the answer and the queue do not touch them (R172). -/
theorem serve {want : Decoded → Option Act} {s : State}
    (hact : ∀ d act, want d = some act → KeepsMotion s (act s).1) : KeepsMotion s (serve want s) :=
  serve_keeps want s (.refl s) (fun _ _ h => h.trans (.of_same (by simp))) (fun _ _ h => h.trans (.of_same (by simp)))
    fun d act hw _ => hact d act hw

end KeepsMotion

/-! ## The operations of the belt -/

theorem keepsMotion_forwardStep (s : State) : KeepsMotion s (forwardStep s) := by
  refine .of_belt (by simp) fun h => ?_
  by_cases he : s.pos.e = s.pos.tp
  · rw [forwardStep_at_tp he]
    exact h.count ⟨rfl, rfl, rfl, rfl⟩ (fun _ => Nat.min_le_right _ _) id
  · rw [forwardStep_behind_tp he]
    exact h.count ⟨rfl, rfl, rfl, rfl⟩ id id

theorem keepsMotion_reverseStep (s : State) : KeepsMotion s (reverseStep s) :=
  .of_belt (by simp) fun h => h.count (by simp) (by simp) (by simp)

theorem illegalStep_illegal_le (s : State) : (illegalStep s).pos.illegal ≤ 255 := by
  unfold illegalStep
  dsimp only
  split <;> exact Nat.min_le_right _ _

theorem keepsMotion_illegalStep (s : State) : KeepsMotion s (illegalStep s) :=
  .of_belt (by simp) fun h => h.count (by simp) (by simp) fun _ => illegalStep_illegal_le s

theorem keepsMotion_clockBoundary (s : State) : KeepsMotion s (clockBoundary s) :=
  .of_belt (by simp) fun h => h.count ⟨rfl, rfl, rfl, rfl⟩ id id

theorem keepsMotion_doClearFault (stop : StopLevel) (s : State) :
    KeepsMotion s (doClearFault stop { s with stopn := stop }).1 := by
  unfold doClearFault
  split <;> [skip; split]
  · exact .of_same ⟨rfl, rfl, rfl⟩
  · exact .of_same ⟨rfl, rfl, rfl⟩
  · exact .of_belt rfl fun h => h.count ⟨rfl, rfl, rfl, rfl⟩ id fun _ => Nat.zero_le _

/-! ## The operations of the Station Controller -/

/-- A new hold-reason set touches neither the ring nor the rotor (R125). -/
theorem keepsMotion_setHolds (h : HoldSet) (s : State) : KeepsMotion s (setHolds h s) :=
  .of_station (by simp) (fun hi => hi.same (by simp)) fun hi => hi.same (by simp)

theorem keepsMotion_portUReport (r : LinkReport) (s : State) : KeepsMotion s (portUReport r s) := by
  have hstation : ∀ linked, KeepsMotion s (s.setStation { s.station with portULinked := linked }) := fun _ =>
    .of_station ⟨rfl, rfl⟩ id id
  cases r <;> exact (hstation _).trans (keepsMotion_setHolds _ _)

theorem keepsMotion_airReportTaken (b : BankIx) (on : Bool) (s : State) : KeepsMotion s (airReportTaken b on s) := by
  have hstation : ∀ banks, KeepsMotion s (s.setStation { s.station with airBanks := banks }) := fun _ =>
    .of_station ⟨rfl, rfl⟩ id id
  exact (hstation _).trans (keepsMotion_setHolds _ _)

/-- A frame to a station changes nothing but Port D's lane (R131). -/
theorem keepsMotion_issueDrive (i : StationId) (s : State) : KeepsMotion s (issueDrive i s) := .of_same (by simp)

theorem keepsMotion_issueAll (s : State) : KeepsMotion s (issueAll s) := .of_same (by simp)

theorem keepsMotion_takeStationMode (m : Mode) (s : State) : KeepsMotion s (takeStationMode m s) := by
  have hmode : KeepsMotion s (s.setStation (s.station.enterMode m)) :=
    .of_retarget ⟨rfl, rfl⟩ ⟨rfl, rfl, rfl⟩ rfl rfl rfl
  have hholds := hmode.trans (keepsMotion_setHolds (s.station.holdsIn m) _)
  rw [takeStationMode_eq]
  split
  · exact hholds.trans (keepsMotion_issueDrive .splitter _)
  · exact hholds

theorem keepsMotion_commandSplitter (s : State) : KeepsMotion s (commandSplitter s) :=
  .of_station (by simp) (fun hi => hi.same (by simp)) fun hi => hi.same (by simp)

theorem keepsMotion_advanceRing (s : State) : KeepsMotion s (advanceRing s) := by
  obtain ⟨hsame, hidle, hfires⟩ := advanceRing_cases (s := s) rfl rfl
  have hkept : KeepsMotion s (s.setStation s.station.advance) :=
    .of_station ⟨rfl, rfl⟩ (fun h => h.advance rfl rfl rfl) id
  have hmoved : ∀ band, KeepsMotion s (s.setStation ({ s.station.advance with band := band } : Station).retarget) :=
    fun _ => .of_station ⟨rfl, rfl⟩ (fun h => h.advance rfl rfl rfl) fun h => h.retarget rfl rfl rfl
  by_cases hband : s.station.advance.judge = s.station.advance.band
  · rw [hsame hband]
    exact hkept
  · cases hf : s.station.advance.mode.firing
    · rw [hidle hband hf]
      exact hmoved _
    · rw [hfires hband hf]
      exact (hmoved _).trans (keepsMotion_commandSplitter _)

theorem keepsMotion_stationTick (s : State) :
    KeepsMotion s (issueDrive .rotor (s.setStation { s.station with setpoint := s.station.slewed })) := by
  have hslewed : KeepsMotion s (s.setStation { s.station with setpoint := s.station.slewed }) :=
    .of_station ⟨rfl, rfl⟩ id fun h => h.slew rfl
  exact hslewed.trans (keepsMotion_issueDrive .rotor _)

theorem keepsMotion_applyStation {e : StationEntry} (he : e.inRange = true) (s : State) :
    KeepsMotion s (applyStation e s) := by
  have hwritten : KeepsMotion s (s.setStation (s.station.written e)) :=
    .of_station ⟨rfl, rfl⟩ id fun _ => rotorInv_written he rfl
  rw [applyStation_eq]
  generalize s.setStation (s.station.written e) = t at hwritten
  induction stationFrames e s generalizing t with
  | nil => exact hwritten
  | cons i l ih => exact ih _ (hwritten.trans (keepsMotion_issueDrive i t))

theorem keepsMotion_applyBand (k : Fin 8) (e : BandEntry) (s : State) : KeepsMotion s (applyBand k e s) := by
  have hbands : KeepsMotion s (s.setStation ({ s.station with bands := s.station.bands.set k e } : Station).retarget) :=
    .of_retarget ⟨rfl, rfl⟩ ⟨rfl, rfl, rfl⟩ rfl rfl rfl
  unfold applyBand
  dsimp only
  split
  · exact hbands.trans (keepsMotion_commandSplitter _)
  · exact hbands

/-! ## Requests -/

@[simp] theorem keepsMotion_writeLineAct (i : Nat) (entry : List Byte) (s : State) :
    KeepsMotion s (writeLineAct i entry s).1 := by
  unfold writeLineAct
  split <;> [skip; (split <;> [skip; split])]
  · exact .refl s
  · exact .refl s
  · exact .refl s
  · exact .of_belt (by simp) fun h => h.applyLine _

@[simp] theorem keepsMotion_writeStationAct (i : Nat) (entry : List Byte) (s : State) :
    KeepsMotion s (writeStationAct i entry s).1 := by
  unfold writeStationAct
  split <;> [skip; split]
  · exact .refl s
  · exact .refl s
  · rename_i hrange
    exact keepsMotion_applyStation (by simpa using hrange) s

@[simp] theorem keepsMotion_writeBandAct (i : Nat) (entry : List Byte) (s : State) :
    KeepsMotion s (writeBandAct i entry s).1 := by
  unfold writeBandAct
  split <;> [split; skip]
  · exact .refl s
  · exact keepsMotion_applyBand _ _ s
  · exact .refl s

@[simp] theorem keepsMotion_writeBankAct (i : Nat) (entry : List Byte) (s : State) :
    KeepsMotion s (writeBankAct i entry s).1 := by
  obtain heq | ⟨b, e, -, heq⟩ := writeBankAct_cases i entry s <;> rw [heq] <;> exact .of_same (by simp)

@[simp] theorem keepsMotion_writeRecipeAct (set : Fin 2) (i : Nat) (entry : List Byte) (s : State) :
    KeepsMotion s (writeRecipeAct set i entry s).1 := by
  unfold writeRecipeAct
  repeat' split
  all_goals exact .of_same (by simp)

@[simp] theorem keepsMotion_selectSetAct (n : Nat) (s : State) : KeepsMotion s (selectSetAct n s).1 := by
  unfold selectSetAct
  split <;> exact .of_same ⟨rfl, rfl, rfl⟩

@[simp] theorem keepsMotion_clearCountersAct (g : GroupId) (bank : Nat) (s : State) :
    KeepsMotion s (clearCountersAct g bank s).1 := by
  unfold clearCountersAct
  cases g <;> dsimp only [clearGroup]
  case bank =>
    split <;> [skip; exact .refl s]
    rename_i t ht
    split at ht <;> cases ht
    exact .of_same (by simp)
  all_goals exact .of_same (by simp)

/-! ## Reset and power-on -/

/-- SOFT RESET clears the ring and the illegal-transition count and takes the idle target (R115, R121, R152). -/
theorem keepsMotion_resetBlocks (kept : Option Frame) (s : State) : KeepsMotion s (resetBlocks kept s) where
  burden _ := burdenInv_of_empty (by simp [resetBlocks_station])
  speed h := h.count (by simp [resetBlocks]) (by simp [resetBlocks]) (by simp [resetBlocks])
  rotor h := h.retarget (by rw [resetBlocks_station]) (by rw [resetBlocks_station]) (by
    rw [resetBlocks_station, targetOf_eq]
    rfl)

theorem keepsMotion_readStop (stop : StopLevel) (s : State) : KeepsMotion s (readStop stop s) := .of_same (by simp)

theorem keepsMotion_powerOn (s : State) (straps : BitVec 4) (enc : EncPair) (stop : StopLevel) (pending : List Instr) :
    KeepsMotion s (.powerOn straps enc stop pending) where
  burden _ := burdenInv_of_empty ⟨rfl, rfl, rfl⟩
  speed _ := by
    unfold SpeedInv State.powerOn PositionUnit.powerOn
    dsimp only
    decide
  rotor _ := (rotorInv_iff _).2 ⟨rfl, Nat.zero_le _, Nat.zero_le _, rfl⟩

/-! ## Every command -/

/-- Every command keeps the three relations: a belt command changes the counts of the Position Unit, a command of the
Station Controller its ring, its target or its setpoint, a request goes by its act, and every other command leaves them all
alone in each branch, by the frame lemmas. -/
theorem exec_keepsMotion {c : Instr} {s t : State} (he : exec c s = .next t) : KeepsMotion s t := by
  have hrun : ∀ {f : State → State}, KeepsMotion s (f s) → whenRunning f s = .next t → KeepsMotion s t := fun hf h =>
    whenRunning_keeps (P := KeepsMotion s) (.refl s) (fun _ => hf) h
  cases c <;> dsimp only [exec] at he
  case powerOn straps enc stop =>
    cases he
    exact (keepsMotion_powerOn s straps enc stop _).trans (keepsMotion_readStop stop _)
  case resetnAsserted => cases he; exact .of_same ⟨rfl, rfl, rfl⟩
  case softResetPerformed stop =>
    refine hrun ?_ he
    split
    · exact (keepsMotion_resetBlocks _ s).trans (keepsMotion_readStop stop _)
    · exact .refl s
    · exact .refl s
  case forwardCount => exact hrun (keepsMotion_forwardStep s) he
  case reverseCount => exact hrun (keepsMotion_reverseStep s) he
  case illegalTransition => exact hrun (keepsMotion_illegalStep s) he
  case binClose =>
    refine hrun ?_ he
    dsimp only
    split <;> exact .of_belt (by simp) fun h => h.closeBin (by simp) (by simp)
  case slotBoundary part =>
    refine hrun ?_ he
    cases part with
    | clock => exact keepsMotion_clockBoundary s
    | bank b => exact .of_same (by simp)
  case burdenContribution =>
    refine hrun ?_ he
    split
    · exact .refl s
    · exact .of_station ⟨rfl, rfl⟩ (fun h => h.contribute rfl) id
  case ringAdvance =>
    refine hrun ?_ he
    have htaken : KeepsMotion s { s with handed := { s.handed with ring := s.handed.ring - 1 } } :=
      .of_same ⟨rfl, rfl, rfl⟩
    split
    · exact .refl s
    · exact htaken.trans (keepsMotion_advanceRing _)
  case stationTick =>
    refine hrun ?_ he
    split
    · exact .refl s
    · exact keepsMotion_stationTick s
  case stationModeChange =>
    refine hrun ?_ he
    have htaken : ∀ rest, KeepsMotion s { s with handed := { s.handed with stationModes := rest } } := fun _ =>
      .of_same ⟨rfl, rfl, rfl⟩
    split
    · exact .refl s
    · exact (htaken _).trans (keepsMotion_takeStationMode _ _)
  case holdReasonReport src =>
    refine hrun ?_ he
    have htaken : ∀ g : Handed, KeepsMotion s { s with handed := g } := fun _ => .of_same ⟨rfl, rfl, rfl⟩
    cases src <;> dsimp only
    case itemTrack =>
      split
      · exact .refl s
      · exact (htaken _).trans (keepsMotion_setHolds _ _)
    case portU =>
      split
      · exact .refl s
      · exact (htaken _).trans (keepsMotion_portUReport _ _)
    case portD =>
      split
      · exact (htaken _).trans (keepsMotion_setHolds _ _)
      · exact .refl s
    case bank =>
      split
      · exact .refl s
      · exact (htaken _).trans (keepsMotion_airReportTaken _ _ _)
  case portDLinked =>
    refine hrun ?_ he
    have hsettled : ∀ g h, KeepsMotion s (({ s with handed := g } : State).setStation (s.station.settle h)) :=
      fun _ _ => .of_station ⟨rfl, rfl⟩ id id
    split
    · exact (hsettled _ _).trans (keepsMotion_issueAll _)
    · exact .refl s
  case holdFeed | releaseFeed =>
    refine hrun (.serve fun d act hw => ?_) he
    split at hw <;> cases hw
    exact keepsMotion_setHolds _ s
  case clearFault stop =>
    refine hrun (.serve fun d act hw => ?_) he
    split at hw <;> cases hw
    exact keepsMotion_doClearFault stop s
  case writeLine | writeStation | writeBand | writeBank | writeRecipe | selectSet | clearCounters =>
    refine hrun (.serve fun d act hw => ?_) he
    split at hw <;> cases hw
    simp
  case readLine | readStation | readBand | readBank | readRecipe | readTrack | readWindows | writeTrack | writeWindows
      | unknownRequest | readStatus | readCounters =>
    refine hrun (.serve fun d act hw => ?_) he
    split at hw <;> cases hw
    exact .refl s
  case start | stop | prove | clearEvents | setMask =>
    refine hrun (.serve fun d act hw => ?_) he
    split at hw <;> cases hw
    exact .of_same (by simp [clearEventsAct, setMaskAct])
  case retirementReport | statusFrame | signalDetected | receiverLocked | partnerReadyChange | signalLoss
      | monitorWindowClose | codeError =>
    refine hrun ?_ he
    dsimp only
    (repeat' split) <;> exact .of_same (by simp)
  all_goals
    refine hrun ?_ he
    (repeat' split) <;> exact .of_same (by simp)

/-- Settles O8: by `exec_keepsMotion`, relation by relation. -/
theorem stepKeepsBurdenSpeedAndRotor : Obligations.StepKeepsBurdenSpeedAndRotor :=
  ⟨step_keeps BurdenInv (fun _ _ h => h) fun _ _ _ h he => (exec_keepsMotion he).burden h,
    step_keeps SpeedInv (fun _ _ h => h) fun _ _ _ h he => (exec_keepsMotion he).speed h,
    step_keeps RotorInv (fun _ _ h => h) fun _ _ _ h he => (exec_keepsMotion he).rotor h⟩

end Sys2Proof.Machine

/-! O2: every command answers a next state and leaves the queue of commands alone (logs 2, 23). -/

namespace Sys2Proof.Machine

/-- Serving a request leaves the queue of commands as its act does: the answer and the request queue are elsewhere. -/
theorem serve_pending {want : Decoded → Option Act} {s : State}
    (hact : ∀ d act, want d = some act → (act s).1.pending = s.pending) : (serve want s).pending = s.pending :=
  serve_keeps (P := fun t => t.pending = s.pending) want s rfl (fun f t h => by simpa using h) (fun _ _ h => h)
    fun d act hw _ => hact d act hw

theorem clearGroup_pending {g : GroupId} {bank : Nat} {s t : State} (h : clearGroup g bank s = some t) :
    t.pending = s.pending := by
  unfold clearGroup at h
  split at h <;> [skip; skip; split at h; skip] <;> cases h <;> simp

/-- Every command leaves the queue of commands alone: a request as its act does, every other command in each branch by the
frame lemmas. -/
theorem exec_pending {c : Instr} {s t : State} (he : exec c s = .next t) : t.pending = s.pending := by
  have hrun : ∀ {f : State → State}, (f s).pending = s.pending → whenRunning f s = .next t → t.pending = s.pending :=
    fun hf h => whenRunning_keeps (P := fun t => t.pending = s.pending) rfl (fun _ => hf) h
  cases c <;> dsimp only [exec] at he
  case powerOn straps enc stop =>
    cases he
    exact (readStop_frame stop _).1
  case resetnAsserted => cases he; rfl
  case readLine | readStation | readBand | readBank | readRecipe | readTrack | readWindows | writeTrack | writeWindows
      | unknownRequest | readStatus | readCounters | clearEvents | setMask =>
    refine hrun (serve_pending fun d act hw => ?_) he
    split at hw <;> cases hw
    rfl
  case start | stop | prove | clearFault | holdFeed | releaseFeed =>
    refine hrun (serve_pending fun d act hw => ?_) he
    split at hw <;> cases hw
    simp [operatorAct]
  case clearCounters =>
    refine hrun (serve_pending fun d act hw => ?_) he
    split at hw <;> cases hw
    unfold clearCountersAct
    split
    · exact clearGroup_pending ‹_›
    · rfl
  case writeLine | writeStation | writeBand | writeBank | writeRecipe | selectSet =>
    refine hrun (serve_pending fun d act hw => ?_) he
    split at hw <;> cases hw
    simp only [writeLineAct, writeStationAct, writeBandAct, writeBankAct, writeRecipeAct, selectSetAct]
    (repeat' split) <;> simp
  case binClose | retirementReport | statusFrame | signalDetected | receiverLocked | partnerReadyChange | signalLoss
      | monitorWindowClose | codeError =>
    refine hrun ?_ he
    dsimp only
    (repeat' split) <;> simp
  all_goals
    refine hrun ?_ he
    (repeat' split) <;> simp

/-- No command is refused and none faults (log 23). -/
theorem exec_answers_next (c : Instr) (s : State) : ∃ t, exec c s = .next t := by
  by_cases hpower : ∃ a e l, c = .powerOn a e l
  · obtain ⟨a, e, l, rfl⟩ := hpower
    exact ⟨_, rfl⟩
  · by_cases hreset : c = .resetnAsserted
    · subst hreset
      exact ⟨_, rfl⟩
    · obtain ⟨f, hf⟩ := exec_eq_whenRunning c (fun a e l h => hpower ⟨a, e, l, h⟩) hreset
      exact ⟨_, hf s⟩

/-- Settles O2: an empty queue idles by `step`; every command answers, and leaves the queue alone by `exec_pending`. -/
theorem everyCommandAnswersNext : Obligations.EveryCommandAnswersNext := by
  refine ⟨fun s hidle => ?_, fun c s => ?_⟩
  · unfold step
    rw [hidle]
  · obtain ⟨t, ht⟩ := exec_answers_next c s
    exact ⟨t, ht, exec_pending ht⟩

end Sys2Proof.Machine

/-! O4: power-on (R134, R146, R161; logs 5, 8, 13). -/

namespace Sys2Proof.Machine

/-! ## A flag raised, and a frame queued, while the return lane takes none -/

/-- A clear flag that is admitted queues its NOTICE (R181 to R183). -/
theorem raiseOne_admitted {f : EventFlag} {s : State} (hclear : s.mgmt.flags.getLsbD f.num = false)
    (hadmitted : s.mgmt.mask.getLsbD f.num = true) :
    raiseOne f s =
      pushOwn (noticeFrame f.num s.pos.tp) (setFlags (s.mgmt.flags ||| BitVec.twoPow 15 f.num) s) := by
  unfold raiseOne
  rw [if_neg (by simp [hclear])]
  exact if_pos hadmitted

/-- A frame of the part waits while Port U is not LINKED (R164). -/
theorem pushOwn_notLinked {s : State} (hlink : (s.link .u).state ≠ .linked) (hroom : s.portU.queue.length < 8)
    (f : Frame) :
    pushOwn f s = { s with portU := { s.portU with queue := s.portU.queue ++ [.own f] } } :=
  (if_pos hroom).trans (offerReturn_held (.inl hlink))

/-! ## POWER_ON -/

theorem exec_powerOn (straps : BitVec 4) (enc : EncPair) (stop : StopLevel) (s : State) :
    exec (.powerOn straps enc stop) s = .next (readStop stop (.powerOn straps enc stop s.pending)) := rfl

theorem exec_powerOn_deasserted (straps : BitVec 4) (enc : EncPair) (s : State) :
    exec (.powerOn straps enc .deasserted) s = .next (.powerOn straps enc .deasserted s.pending) :=
  (exec_powerOn straps enc .deasserted s).trans (congrArg _ (readStop_deasserted _))

theorem exec_powerOn_asserted (straps : BitVec 4) (enc : EncPair) (s : State) :
    exec (.powerOn straps enc .asserted) s = .next (takeEmergencyStop (.powerOn straps enc .asserted s.pending)) :=
  (exec_powerOn straps enc .asserted s).trans (congrArg _ (readStop_asserted _))

section Blocks

variable (straps : BitVec 4) (enc : EncPair) (stop : StopLevel) (pending : List Instr)

theorem powerOn_bank (b : BankIx) : (State.powerOn straps enc stop pending).bank b = .powerOn := by
  simp [State.powerOn, State.bank]

theorem powerOn_link (p : PortId) : (State.powerOn straps enc stop pending).link p = .powerOn := by
  cases p <;> rfl

theorem powerOn_recipe (k : Fin 2) : (State.powerOn straps enc stop pending).cls.sets[k] = .default := by
  simp [State.powerOn]

end Blocks

/-- A strap value of 0 reads as 1 (R161). -/
theorem nodeOfStraps_toNat (straps : BitVec 4) :
    (nodeOfStraps straps).toNat = if straps.toNat = 0 then 1 else straps.toNat := by
  revert straps
  decide

/-- The FAULT flag raised in the Management Engine's and Port U's power-on states: ALERT, and a NOTICE that waits, Port U
being DOWN (R182, R183). -/
theorem raise_fault_powerOn {s : State} (hmgmt : s.mgmt = .powerOn) (hportU : s.portU = ⟨.powerOn, [], none, 0, 0⟩)
    (htp : s.pos.tp = 0) :
    (raise [.fault] s).mgmt.alert = true
      ∧ (raise [.fault] s).portU.queue = [.own ⟨0, .notice, [14, 0, 0, 0, 0]⟩] := by
  rw [raise_one, raiseOne_admitted (by rw [hmgmt]; decide) (by rw [hmgmt]; decide),
    pushOwn_notLinked (by simp [hportU, Link.powerOn]) (by simp [hportU])]
  simp only [setFlags_mgmt, setFlags_portU, hmgmt, hportU, htp]
  exact ⟨by decide, by decide⟩

/-- Settles O4: with STOPn deasserted the blocks are those of `State.powerOn`; with STOPn asserted the emergency stop finds
that state, in STANDBY with every flag clear and admitted and Port U DOWN. -/
theorem powerOnSetsEveryBlock : Obligations.PowerOnSetsEveryBlock := by
  refine ⟨fun straps enc s => ?_, fun straps enc s u hu => ?_, fun straps enc s => ?_⟩
  · refine ⟨_, exec_powerOn_deasserted straps enc s, rfl, rfl, nodeOfStraps_toNat straps, rfl, rfl, rfl, fun k i => ?_,
      fun k => ?_, fun k i => ?_, rfl, fun b => ?_, rfl, rfl, rfl, rfl, rfl, rfl, rfl, rfl, rfl, rfl, rfl, rfl, rfl, rfl,
      rfl, fun p => ?_, rfl, rfl, rfl, rfl, rfl, rfl, rfl, rfl, rfl, rfl, rfl, rfl, rfl, rfl, rfl, rfl⟩
    · rw [powerOn_recipe]
      exact Vector.getElem_replicate _
    · rw [powerOn_recipe]
      rfl
    · simp [State.powerOn]
    · rw [powerOn_bank]
      exact ⟨rfl, rfl, rfl, fun i => Vector.getElem_replicate _, rfl, rfl, rfl, rfl, rfl, rfl, rfl⟩
    · rw [powerOn_link]
      exact ⟨rfl, rfl, rfl, rfl, rfl, rfl, rfl⟩
  · rw [exec_powerOn_deasserted] at hu
    cases hu
    rw [exec_powerOn_asserted]
    exact (exec_emergencyStop (s := .powerOn straps enc .deasserted s.pending) rfl).symm
  · obtain ⟨hmc, hflags, htrack, hbanks, -⟩ :=
      takeEmergencyStop_standby (s := .powerOn straps enc .asserted s.pending) rfl rfl
    obtain ⟨hmgmt, hportU⟩ := takeEmergencyStop_mgmt_portU (.powerOn straps enc .asserted s.pending)
    obtain ⟨halert, hnotice⟩ := raise_fault_powerOn (s := .powerOn straps enc .asserted s.pending) rfl rfl rfl
    refine ⟨_, exec_powerOn_asserted straps enc s, by rw [hmc], by rw [hmc], htrack, hflags, fun b => ?_, by rwa [hmgmt],
      by rwa [hportU]⟩
    obtain ⟨hmode, -, -, hmodes⟩ := hbanks b
    exact ⟨hmode, hmodes⟩

end Sys2Proof.Machine

/-! O46: the reports that the Mode Controller takes, and the drain's timeout (R140, R141, R144, R145, R147, R148, R151; logs
3, 5, 20). -/

namespace Sys2Proof.Machine

section Running

variable {s : State} (hrun : s.inReset = false)
include hrun

/-! ## The Position Unit's reports -/

theorem exec_encoderFault (h : 0 < s.handed.encoder) :
    exec .encoderFault s = .next
      (if s.mc.mode = .fault then
        raise [.encoder] { s with handed := { s.handed with encoder := s.handed.encoder - 1 } }
      else raise [.encoder, .fault]
        (faultEntry .encoder { s with handed := { s.handed with encoder := s.handed.encoder - 1 } })) := by
  dsimp only [exec, execEncoderFault]
  rw [whenRunning_running _ hrun, if_neg h.ne']

theorem exec_beltReversal (h : 0 < s.handed.reversal) :
    exec .beltReversal s = .next
      (if s.mc.mode = .run ∨ s.mc.mode = .drain then
        raise [.fault] (faultEntry .reverse { s with handed := { s.handed with reversal := s.handed.reversal - 1 } })
      else { s with handed := { s.handed with reversal := s.handed.reversal - 1 } }) := by
  dsimp only [exec, execBeltReversal]
  simp only [whenRunning_running _ hrun, if_neg h.ne', firing_iff]

/-! ## Port U's reports, in the order it made them -/

theorem exec_blindSpanBegin {rest : List PortUReport} (h : s.handed.portUMode = .link .left :: rest) :
    exec .blindSpanBegin s = .next
      (if s.mc.mode = .run then
        raise [.blind]
          { s with
            mc := { s.mc with blindStart := some s.pos.tp, blindEnd := none }
            handed := { s.handed with portUMode := rest } }
      else { s with handed := { s.handed with portUMode := rest } }) := by
  dsimp only [exec, execBlindSpanBegin]
  rw [whenRunning_running _ hrun, h]

theorem exec_blindSpanBegin_idle (h : ∀ rest, s.handed.portUMode ≠ .link .left :: rest) :
    exec .blindSpanBegin s = .next s := by
  dsimp only [exec, execBlindSpanBegin]
  rw [whenRunning_running _ hrun]
  split
  · exact absurd ‹_› (h _)
  · rfl

theorem exec_blindSpanEnd {rest : List PortUReport} (h : s.handed.portUMode = .link .became :: rest) :
    exec .blindSpanEnd s = .next
      (if s.mc.blindStart ≠ none ∧ s.mc.blindEnd = none then
        { s with
          mc := { s.mc with blindEnd := some s.pos.tp }
          handed := { s.handed with portUMode := rest } }
      else { s with handed := { s.handed with portUMode := rest } }) := by
  dsimp only [exec, execBlindSpanEnd]
  rw [whenRunning_running _ hrun, h]
  simp only [Option.isSome_iff_ne_none, Option.isNone_iff_eq_none]

theorem exec_blindSpanEnd_idle (h : ∀ rest, s.handed.portUMode ≠ .link .became :: rest) :
    exec .blindSpanEnd s = .next s := by
  dsimp only [exec, execBlindSpanEnd]
  rw [whenRunning_running _ hrun]
  split
  · exact absurd ‹_› (h _)
  · rfl

theorem exec_provingExpiryReport_portU {rest : List PortUReport} (h : s.handed.portUMode = .expiry :: rest) :
    exec .provingExpiryReport s = .next (endTest { s with handed := { s.handed with portUMode := rest } }) := by
  dsimp only [exec, execProvingExpiryReport]
  rw [whenRunning_running _ hrun, h]

/-- With no expiry of Port U at the front, one of Port D is taken if there is one (log 3). -/
theorem exec_provingExpiryReport_portD (h : ∀ rest, s.handed.portUMode ≠ .expiry :: rest) :
    exec .provingExpiryReport s = .next
      (if s.handed.portDExpiry = 0 then s
      else endTest { s with handed := { s.handed with portDExpiry := s.handed.portDExpiry - 1 } }) := by
  dsimp only [exec, execProvingExpiryReport]
  rw [whenRunning_running _ hrun]
  split
  · exact absurd ‹_› (h _)
  · rfl

/-! ## The end of a drain -/

theorem exec_trackEmptyReport (h : 0 < s.handed.trackEmpty) :
    exec .trackEmptyReport s = .next
      (if s.mc.mode = .drain ∧ s.track = [] then
        raise [.drained]
          (changeMode .standby { s with handed := { s.handed with trackEmpty := s.handed.trackEmpty - 1 } })
      else { s with handed := { s.handed with trackEmpty := s.handed.trackEmpty - 1 } }) := by
  dsimp only [exec, execTrackEmptyReport]
  simp only [whenRunning_running _ hrun, if_neg h.ne', List.isEmpty_iff]

theorem exec_drainTimeout :
    exec .drainTimeout s = .next (if drainExpired s then raise [.drainTimeout] (flushInto .standby s) else s) := by
  dsimp only [exec, execDrainTimeout, abandonDrain]
  rw [whenRunning_running _ hrun]

end Running

theorem drainExpired_iff (s : State) :
    drainExpired s = true ↔ s.mc.mode = .drain ∧ (s.mgmt.line.drainLimit : Int) ≤ sdiff s.pos.tp s.mc.drainStart := by
  simp [drainExpired]

/-- Settles O46: report by report, by the row that takes it. -/
theorem reportsToTheModeController : Obligations.ReportsToTheModeController := by
  intro s hrun
  refine ⟨exec_encoderFault hrun, exec_beltReversal hrun, fun rest => exec_blindSpanBegin hrun,
    fun rest => exec_blindSpanEnd hrun, fun rest => exec_provingExpiryReport_portU hrun, fun hport hexpiry => ?_,
    exec_blindSpanBegin_idle hrun, exec_blindSpanEnd_idle hrun, fun hport hnone => ?_, exec_trackEmptyReport hrun,
    fun hlimit hdrain => ⟨whenRunning_running _ hrun, ?_⟩, fun hnot => ?_⟩
  · rw [exec_provingExpiryReport_portD hrun hport, if_neg hexpiry.ne']
    rfl
  · rw [exec_provingExpiryReport_portD hrun hport, if_pos hnone]
  · rw [exec_drainTimeout hrun, if_pos ((drainExpired_iff s).2 ⟨hdrain, hlimit⟩)]
  · have hopen : ¬ drainExpired s = true := by
      rw [drainExpired_iff]
      rintro ⟨hdrain, hlimit⟩
      exact hnot.elim (absurd hdrain) (not_lt.2 hlimit)
    rw [exec_drainTimeout hrun, if_neg hopen]

end Sys2Proof.Machine

/-! What a change out of LINKED does to the lanes, the reports and the flags (R154, R156, R179, R183; log 28). -/

namespace Sys2Proof.Machine

/-! ## The flags of the change -/

theorem relayDrop_mem_cutFlags {tx : Option TxFrame} (h : cutsRelayed tx) : .relayDrop ∈ cutFlags tx := by
  obtain ⟨bytes, rfl⟩ := h
  exact List.mem_singleton.2 rfl

theorem cutFlags_eq (tx : Option TxFrame) :
    (if (tx.map TxFrame.isRelayed).getD false then [.relayDrop] else []) = cutFlags tx := by
  rcases tx with _ | _ | _ | _ <;> rfl

theorem leaveFlags_u (s : State) : leaveFlags .u s = cutFlags s.portU.tx := cutFlags_eq s.portU.tx

theorem leaveFlags_d (s : State) : leaveFlags .d s = .downlinkLost :: cutFlags s.portD.tx :=
  congrArg (EventFlag.downlinkLost :: ·) (cutFlags_eq s.portD.tx)

/-! ## The frame cut off -/

/-- A relayed frame cut off at Port U is counted as a relay drop, and no other frame is (R156). -/
theorem cutReturn_relayDrops (s : State) :
    (cutsRelayed s.portU.tx → (cutReturn s).portU.relayDrops = satInc s.portU.relayDrops)
      ∧ (¬ cutsRelayed s.portU.tx → (cutReturn s).portU.relayDrops = s.portU.relayDrops) := by
  rw [← cutsRelayed_iff]
  unfold cutReturn
  rcases s.portU.tx with _ | f
  · simp
  · cases h : f.isRelayed <;> simp [h]

/-- A frame of the part cut off at Port U is counted as a return drop, and no other frame is (R156). -/
theorem cutReturn_returnDrops (s : State) :
    (cutsOwn s.portU.tx → (cutReturn s).portU.returnDrops = satInc s.portU.returnDrops)
      ∧ (¬ cutsOwn s.portU.tx → (cutReturn s).portU.returnDrops = s.portU.returnDrops) := by
  unfold cutReturn cutsOwn
  rcases s.portU.tx with _ | f
  · simp
  · cases h : f.isRelayed <;> simp [h]

/-- Only a relayed frame cut off at Port D is counted (R156). -/
theorem cutForward_relayDrops (s : State) :
    (cutsRelayed s.portD.tx → (cutForward s).portD.relayDrops = satInc s.portD.relayDrops)
      ∧ (¬ cutsRelayed s.portD.tx → (cutForward s).portD.relayDrops = s.portD.relayDrops) := by
  rw [← cutsRelayed_iff]
  exact ⟨fun h => if_pos h, fun h => if_neg h⟩

/-! ## A SOFT RESET that waits -/

theorem resetDue_softReset (s : State) :
    (s.mgmt.softReset = .waiting → (resetDue s).mgmt.softReset = .due none)
      ∧ (s.mgmt.softReset ≠ .waiting → (resetDue s).mgmt.softReset = s.mgmt.softReset) := by
  unfold resetDue
  exact ⟨fun h => by rw [if_pos h], fun h => by rw [if_neg h]⟩

theorem resetDue_mgmt (s : State) :
    (resetDue s).mgmt = { s.mgmt with softReset := (resetDue s).mgmt.softReset } := by
  unfold resetDue
  split <;> rfl

/-! ## The return lane of a port that is not LINKED -/

theorem pushOwn_portU_tx {s : State} (hlink : (s.link .u).state ≠ .linked) (f : Frame) :
    (pushOwn f s).portU.tx = s.portU.tx := by
  unfold pushOwn
  split
  · rw [offerReturn_held (.inl (by exact hlink))]
  · rfl

theorem raiseOne_portU_tx {s : State} (hlink : (s.link .u).state ≠ .linked) (f : EventFlag) :
    (raiseOne f s).portU.tx = s.portU.tx := by
  unfold raiseOne
  split <;> [skip; (dsimp only; split)]
  · rfl
  · exact pushOwn_portU_tx (s := setFlags _ s) hlink _
  · rfl

/-- Raising flags starts no frame on the return lane of a port that is not LINKED (R154, R164). -/
theorem raise_portU_tx {s : State} (hlink : (s.link .u).state ≠ .linked) (fs : List EventFlag) :
    (raise fs s).portU.tx = s.portU.tx := by
  have hkept := raise_keeps (fun t => (t.link .u).state ≠ .linked → t.portU.tx = s.portU.tx)
    (fun f t => by
      simp only [raiseOne_frame_at]
      exact propext (forall_congr' fun h => by rw [raiseOne_portU_tx h])) fs s
  exact hkept.mpr (fun _ => rfl) (by simpa using hlink)

/-! ## The whole change -/

theorem PortU.eq_of_fields {a b : PortU} (hlink : a.link = b.link) (hqueue : a.queue = b.queue) (htx : a.tx = b.tx)
    (hrelay : a.relayDrops = b.relayDrops) (hreturn : a.returnDrops = b.returnDrops) : a = b := by
  cases a
  cases b
  simp_all

theorem leaveEffects_u_portU (s : State) : (leaveEffects .u s).portU = (cutReturn s).portU := by
  simp [leaveEffects]

theorem leaveEffects_u_mgmt (s : State) :
    (leaveEffects .u s).mgmt = { s.mgmt with softReset := (leaveEffects .u s).mgmt.softReset } := by
  simpa [leaveEffects] using resetDue_mgmt (reportU .left (cutReturn s))

theorem leaveEffects_u_softReset (s : State) :
    (s.mgmt.softReset = .waiting → (leaveEffects .u s).mgmt.softReset = .due none)
      ∧ (s.mgmt.softReset ≠ .waiting → (leaveEffects .u s).mgmt.softReset = s.mgmt.softReset) := by
  simpa [leaveEffects] using resetDue_softReset (reportU .left (cutReturn s))

/-- A new link for one port, and a new proving run: what a change out of LINKED starts from (R155, R165). -/
def State.relinked (s : State) (p : PortId) (l : Link) (run : Proving) : State := { s.setLink p l with proving := run }

theorem State.relinked_link (s : State) (p : PortId) (l : Link) (run : Proving) : (s.relinked p l run).link p = l :=
  s.link_setLink_self p l

section Leaves

variable (s : State) {l : Link} (run : Proving) (more : List EventFlag)

/-- Port U leaves LINKED: its lane is cut off, then the flags are raised (R156; log 28). -/
theorem leftLinked_u (hl : l.state ≠ .linked) :
    LeftLinked .u more s (raise (more ++ leaveFlags .u s) (leaveEffects .u (s.relinked .u l run))) := by
  rw [leaveFlags_u]
  generalize hfs : more ++ cutFlags s.portU.tx = fs
  generalize hv : leaveEffects .u (s.relinked .u l run) = v
  have hlink : v.portU.link = l := by rw [← hv]; simp [State.relinked]
  have hportU : v.portU = (cutReturn (s.relinked .u l run)).portU := by rw [← hv, leaveEffects_u_portU]
  have hnone : v.portU.tx = none := by rw [hportU, cutReturn_tx]
  have hqueue : v.portU.queue = s.portU.queue := by rw [← hv]; simp [State.relinked]
  have hrelay : (cutsRelayed s.portU.tx → v.portU.relayDrops = satInc s.portU.relayDrops)
      ∧ (¬ cutsRelayed s.portU.tx → v.portU.relayDrops = s.portU.relayDrops) := by
    rw [hportU]; exact cutReturn_relayDrops (s.relinked .u l run)
  have hreturn : (cutsOwn s.portU.tx → v.portU.returnDrops = satInc s.portU.returnDrops)
      ∧ (¬ cutsOwn s.portU.tx → v.portU.returnDrops = s.portU.returnDrops) := by
    rw [hportU]; exact cutReturn_returnDrops (s.relinked .u l run)
  have hmgmt : v.mgmt = { s.mgmt with softReset := v.mgmt.softReset } := by
    rw [← hv]; exact leaveEffects_u_mgmt (s.relinked .u l run)
  have hreset : (s.mgmt.softReset = .waiting → v.mgmt.softReset = .due none)
      ∧ (s.mgmt.softReset ≠ .waiting → v.mgmt.softReset = s.mgmt.softReset) := by
    rw [← hv]; exact leaveEffects_u_softReset (s.relinked .u l run)
  have htx : (raise fs v).portU.tx = none := (raise_portU_tx (by rw [State.link_u, hlink]; exact hl) fs).trans hnone
  have hhanded : v.handed = { s.handed with
      portUMode := s.handed.portUMode ++ [.link .left], portUStation := s.handed.portUStation ++ [.left] } := by
    rw [← hv]
    simp [leaveEffects, reportU, State.relinked]
  have hportD : v.portD = s.portD := by
    rw [← hv]
    simp [leaveEffects, State.relinked]
  obtain ⟨hframes, hdrops⟩ := raise_return fs v
  refine ⟨htx, by simp [hportD], ?_, by simp [hhanded], by simp [hhanded], by simp [hhanded], fun h => ⟨?_, ?_⟩,
    fun h => ?_, fun h => ?_, fun h => ?_, fun h => ?_, fun u hu => ?_⟩
  · unfold State.returnFrames at hframes
    rwa [htx, hnone, hqueue] at hframes
  · simpa using hrelay.1 h
  · exact raise_sets _ _ _ (hfs ▸ List.mem_append_right _ (relayDrop_mem_cutFlags h))
  · rwa [hreturn.1 h] at hdrops
  · simpa using hrelay.2 h
  · simpa using hreset.1 h
  · simpa using hreset.2 h
  · have hsamePortU : v.portU = u.portU := by
      subst hu
      refine PortU.eq_of_fields (by simp) hqueue hnone (by simp) ?_
      rcases h : s.portU.tx with _ | f | f | bytes
      · exact hreturn.2 (by simp [h, cutsOwn])
      · exact hreturn.1 ⟨_, h, rfl⟩
      · exact hreturn.1 ⟨_, h, rfl⟩
      · exact hreturn.2 (by simp [h, cutsOwn, TxFrame.isRelayed])
    have hsameMgmt : v.mgmt = u.mgmt := by
      rw [hmgmt, hu]
      simp
    rw [hfs]
    exact and_comm.1 (raise_congr fs hsamePortU hsameMgmt (by subst hu hv; simp [State.relinked]))

/-- Port D leaves LINKED: its lane is cut off and its waiting frames are discarded, then the flags are raised (R156). -/
theorem leftLinked_d :
    LeftLinked .d more s (raise (more ++ leaveFlags .d s) (leaveEffects .d (s.relinked .d l run))) := by
  rw [leaveFlags_d]
  generalize hfs : more ++ .downlinkLost :: cutFlags s.portD.tx = fs
  generalize hv : leaveEffects .d (s.relinked .d l run) = v
  have hrelay : (cutsRelayed s.portD.tx → v.portD.relayDrops = satInc s.portD.relayDrops)
      ∧ (¬ cutsRelayed s.portD.tx → v.portD.relayDrops = s.portD.relayDrops) := by
    rw [← hv]; exact cutForward_relayDrops (s.relinked .d l run)
  have hportU : v.portU = s.portU := by rw [← hv]; simp [leaveEffects, State.relinked]
  have hmgmt : v.mgmt = s.mgmt := by rw [← hv]; simp [leaveEffects, State.relinked]
  have hpos : v.pos = s.pos := by rw [← hv]; simp [State.relinked]
  obtain ⟨hsameU, hsame⟩ := raise_congr fs hportU hmgmt (by rw [hpos])
  have hfields : v.portD.tx = none ∧ v.portD.fire = Vector.replicate 4 none ∧ v.portD.drive = []
      ∧ v.portD.relay = s.portD.relay ∧ v.portD.fireOverruns = s.portD.fireOverruns
      ∧ v.portD.unknownSource = s.portD.unknownSource := by
    rw [← hv]
    exact ⟨rfl, rfl, rfl, rfl, rfl, rfl⟩
  have hhanded : v.handed = { s.handed with portDStation := s.handed.portDStation ++ [.left] } := by rw [← hv]; rfl
  have hframes : s.returnFrames <+: (raise fs v).returnFrames := by
    have h := (raise_return fs v).1
    unfold State.returnFrames at h ⊢
    rwa [hportU] at h
  obtain ⟨htx, hfire, hdrive, hrelayed, hoverruns, hsource⟩ := hfields
  have hportD : (raise fs v).portD = v.portD := by simp
  have hreports : (raise fs v).handed = v.handed := by simp
  unfold LeftLinked
  simp only [hportD, hreports, hhanded, hfs, true_and]
  refine ⟨htx, hfire, hdrive, hrelayed, hoverruns, hsource, by simp [hportU], hframes, ?_,
    fun h => ⟨hrelay.1 h, ?_⟩, hrelay.2, by simp [hmgmt], hsame, hsameU⟩
  · exact raise_sets fs v _ (hfs ▸ List.mem_append_right _ List.mem_cons_self)
  · exact raise_sets fs v _ (hfs ▸ List.mem_append_right _ (List.mem_cons_of_mem _ (relayDrop_mem_cutFlags h)))

/-- Either port leaves LINKED. -/
theorem leftLinked (p : PortId) (hl : l.state ≠ .linked) :
    LeftLinked p more s (raise (more ++ leaveFlags p s) (leaveEffects p (s.relinked p l run))) := by
  cases p
  · exact leftLinked_u s run more hl
  · exact leftLinked_d s run more

end Leaves

end Sys2Proof.Machine

/-! O58: START, STOP, PROVE and CLEAR_FAULT (R136, R138, R142, R149, R151, R165, R168, R193; logs 5, 7, 8). -/

namespace Sys2Proof.Machine

/-! ## START -/

theorem doStart_mode {s : State} (h : s.mc.mode ≠ .standby) : doStart s = (s, ⟨.mode, []⟩) := if_pos h

theorem doStart_blocked {s : State} {c : NotReady} (h : s.mc.mode = .standby) (hc : startBlockers s = some c) :
    doStart s = (s, ⟨.notReady, u8 c.num⟩) := by
  unfold doStart
  rw [if_neg (not_not.2 h), hc]
  rfl

theorem doStart_runs {s : State} (h : s.mc.mode = .standby) (hc : startBlockers s = none) :
    doStart s = (changeMode .run s, ⟨.ok, []⟩) := by
  unfold doStart
  rw [if_neg (not_not.2 h), hc]
  rfl

/-- START's conditions in their order (R136). -/
theorem startBlockers_eq (s : State) {inUse : List Nat}
    (hin : inUse = (s.banks.toList.filter fun u => decide (u.desc.kind ≠ .disabled)).map (fun u => u.desc.node)) :
    startBlockers s =
      if (s.link .u).state ≠ .linked then some .uplink
      else if (s.link .d).state ≠ .linked then some .downlink
      else if inUse = [] then some .noBank
      else if ¬ inUse.Nodup then some .nodeClash
      else none := by
  subst hin
  unfold startBlockers
  simp only [State.linked, Bool.not_eq_true', decide_eq_false_iff_not, List.isEmpty_iff]

/-! ## STOP -/

theorem doStop_mode {s : State} (hr : s.mc.mode ≠ .run) (hd : s.mc.mode ≠ .drain) : doStop s = (s, ⟨.mode, []⟩) := by
  unfold doStop
  split
  · exact absurd ‹_› hr
  · exact absurd ‹_› hd
  · rfl

theorem doStop_drain {s : State} (h : s.mc.mode = .drain) : doStop s = (flushInto .standby s, ⟨.ok, []⟩) := by
  unfold doStop
  rw [h]
  rfl

theorem doStop_run {s : State} (h : s.mc.mode = .run) :
    doStop s =
      (if s.track = [] then
        raise [.drained] (changeMode .standby { s with mc := { s.mc with drainStart := s.pos.tp } })
      else changeMode .drain { s with mc := { s.mc with drainStart := s.pos.tp } }, ⟨.ok, []⟩) := by
  unfold doStop
  rw [h]
  simp only [List.isEmpty_iff]
  split <;> rfl

/-! ## CLEAR_FAULT -/

theorem doClearFault_mode {s : State} (h : s.mc.mode ≠ .fault) (stop : StopLevel) :
    doClearFault stop s = (s, ⟨.mode, []⟩) := if_pos h

theorem doClearFault_fault {s : State} (h : s.mc.mode = .fault) (stop : StopLevel) :
    doClearFault stop s = if stop = .asserted then (s, ⟨.notReady, [5]⟩) else (faultCleared s, ⟨.ok, []⟩) :=
  if_neg (not_not.2 h)

/-! ## PROVE -/

theorem portOfCode_none {n : Nat} (h : 1 < n) : portOfCode n = none := by
  unfold portOfCode
  split
  · omega
  · omega
  · rfl

theorem roleOfCode_none {n : Nat} (h : 1 < n) : roleOfCode n = none := by
  unfold roleOfCode
  split
  · omega
  · omega
  · rfl

theorem portOfCode_of_le {n : Nat} (h : n ≤ 1) : portOfCode n = some (if n = 0 then .u else .d) := by
  interval_cases n <;> rfl

theorem roleOfCode_of_le {n : Nat} (h : n ≤ 1) : roleOfCode n = some (if n = 0 then .generate else .check) := by
  interval_cases n <;> rfl

theorem portOfCode_some {n : Nat} {p : PortId} (hn : n ≤ 1) (hp : p = .u ↔ n = 0) : portOfCode n = some p := by
  rw [portOfCode_of_le hn]
  cases p <;> simp_all

theorem roleOfCode_some {n : Nat} {role : ProvingRole} (hn : n ≤ 1) (hr : role = .generate ↔ n = 0) :
    roleOfCode n = some role := by
  rw [roleOfCode_of_le hn]
  cases role <;> simp_all

theorem doProve_mode {s : State} (h : s.mc.mode ≠ .standby) (port role n : Nat) :
    doProve port role n s = (s, ⟨.mode, []⟩) := if_pos h

theorem doProve_range {s : State} (h : s.mc.mode = .standby) {port role n : Nat} (hr : 1 < port ∨ 1 < role ∨ n = 0) :
    doProve port role n s = (s, ⟨.range, []⟩) := by
  unfold doProve
  rw [if_neg (not_not.2 h)]
  split
  · rename_i p ro hport hrole
    have hn : n = 0 := by
      obtain hbig | hbig | hn := hr
      · rw [portOfCode_none hbig] at hport; cases hport
      · rw [roleOfCode_none hbig] at hrole; cases hrole
      · exact hn
    rw [if_pos hn]
    rfl
  · rfl

theorem doProve_inRange {s : State} (h : s.mc.mode = .standby) {port role n : Nat} {p : PortId} {ro : ProvingRole}
    (hport : portOfCode port = some p) (hrole : roleOfCode role = some ro) (hn : n ≠ 0) :
    doProve port role n s =
      if s.proving.run.isSome then (s, ⟨.notReady, [6]⟩) else (changeMode .test (startRun p ro n s), ⟨.ok, []⟩) := by
  unfold doProve
  rw [if_neg (not_not.2 h), hport, hrole]
  exact if_neg hn

/-! ### The proving run that starts -/

theorem enterProving_eq (role : ProvingRole) (l : Link) :
    enterProving role l =
      { l with state := .proving, locked := if role = .check then false else l.locked, warning := false } := by
  cases role <;> rfl

theorem newEngine_eq (role : ProvingRole) :
    newEngine role = if role = .generate then .generator (BitVec.allOnes 15) else .checker .fresh := by
  cases role <;> rfl

/-- The run in progress and the RUNNING result of a PROVE (R165, R168). -/
def Proving.started (p : PortId) (role : ProvingRole) (n : Nat) : Proving :=
  ⟨some ⟨p, role, newEngine role⟩, some ⟨p, role, n, 0, false, .running⟩⟩

theorem startRun_linked {s : State} {p : PortId} (h : (s.link p).state = .linked) (role : ProvingRole) (n : Nat) :
    startRun p role n s = raise (leaveFlags p s)
      (leaveEffects p (s.relinked p (enterProving role (s.link p)) (.started p role n))) :=
  if_pos ((s.linked_iff p).2 h)

theorem startRun_notLinked {s : State} {p : PortId} (h : (s.link p).state ≠ .linked) (role : ProvingRole) (n : Nat) :
    startRun p role n s = s.relinked p (enterProving role (s.link p)) (.started p role n) :=
  if_neg (mt (s.linked_iff p).1 h)

theorem startRun_link (p : PortId) (role : ProvingRole) (n : Nat) (s : State) :
    (startRun p role n s).link p = enterProving role (s.link p) := by
  by_cases h : (s.link p).state = .linked
  · simp only [startRun_linked h, raise_frame_at, leaveEffects_frame_at, State.relinked_link]
  · rw [startRun_notLinked h, State.relinked_link]

theorem startRun_proving (p : PortId) (role : ProvingRole) (n : Nat) (s : State) :
    (startRun p role n s).proving = .started p role n := by
  by_cases h : (s.link p).state = .linked
  · simp [startRun_linked h, State.relinked]
  · rw [startRun_notLinked h]
    rfl

theorem sameOutsidePorts_startRun (p : PortId) (role : ProvingRole) (n : Nat) (s : State) :
    SameOutsidePorts s (startRun p role n s) := by
  refine ⟨by simp, by simp, by simp, by simp, by simp, by simp, by simp, by simp, by simp, by simp, by simp, by simp,
    by simp, by simp, ?_⟩
  apply Handed.eq_of_fields <;> simp

theorem leftLinked_startRun {s : State} {p : PortId} (h : (s.link p).state = .linked) (role : ProvingRole) (n : Nat) :
    LeftLinked p [] s (startRun p role n s) := by
  rw [startRun_linked h]
  exact leftLinked s _ [] p (by rw [enterProving_eq]; simp)

/-! ## The requests -/

section Served

variable {s : State} {r : Request} {rest : List Request} (hs : Serves s r rest)
include hs

theorem exec_start (hd : decodeRequest r.payload = .start) :
    exec .start s = .next (answered r rest (doStart s).2 (doStart s).1) :=
  serve_head hs (by rw [hd])

theorem exec_stop (hd : decodeRequest r.payload = .stop) :
    exec .stop s = .next (answered r rest (doStop s).2 (doStop s).1) :=
  serve_head hs (by rw [hd])

theorem exec_clearFault (stop : StopLevel) (hd : decodeRequest r.payload = .clearFault) :
    exec (.clearFault stop) s = .next
      (answered r rest (doClearFault stop { s with stopn := stop }).2 (doClearFault stop { s with stopn := stop }).1) :=
  serve_head (act := fun s => doClearFault stop { s with stopn := stop }) hs (by rw [hd])

theorem exec_prove {port role n : Nat} (hd : decodeRequest r.payload = .prove port role n) :
    exec .prove s = .next (answered r rest (doProve port role n s).2 (doProve port role n s).1) :=
  serve_head hs (by rw [hd])

end Served

/-- Settles O58: each request by the branch that its conditions choose; a PROVE by `startRun`. -/
theorem modeRequests : Obligations.ModeRequests := by
  intro s r rest inUse hs hin
  refine ⟨fun hd => ?_, fun hd => ?_, fun stop hd => ?_, fun port role n hd => ?_⟩
  · rw [exec_start hs hd]
    have hblockers := startBlockers_eq s hin
    refine ⟨fun hmode => by rw [doStart_mode hmode], fun hmode => ⟨fun hu => ?_, fun hu => ⟨fun hdown => ?_,
      fun hdown => ⟨fun hnone => ?_, fun hsome hclash => ?_, fun hsome hnodup => ?_⟩⟩⟩⟩
    · rw [if_pos hu] at hblockers
      rw [doStart_blocked hmode hblockers]
      rfl
    · rw [if_neg (not_not.2 hu), if_pos hdown] at hblockers
      rw [doStart_blocked hmode hblockers]
      rfl
    all_goals rw [if_neg (not_not.2 hu), if_neg (not_not.2 hdown)] at hblockers
    · rw [if_pos hnone] at hblockers
      rw [doStart_blocked hmode hblockers]
      rfl
    · rw [if_neg hsome, if_pos hclash] at hblockers
      rw [doStart_blocked hmode hblockers]
      rfl
    · rw [if_neg hsome, if_neg (not_not.2 hnodup)] at hblockers
      rw [doStart_runs hmode hblockers]
  · rw [exec_stop hs hd]
    refine ⟨fun hrun hdrain => by rw [doStop_mode hrun hdrain], fun hdrain => by rw [doStop_drain hdrain],
      fun hrun htrack => ?_, fun hrun htrack => ?_⟩
    · rw [doStop_run hrun, if_neg htrack]
    · rw [doStop_run hrun, if_pos htrack]
  · rw [exec_clearFault hs stop hd]
    refine ⟨fun hmode => ?_, fun hmode hstop => ?_, fun hmode hstop => ?_⟩
    · rw [doClearFault_mode (by exact hmode)]
    · rw [doClearFault_fault (by exact hmode), if_pos hstop]
    · rw [doClearFault_fault (by exact hmode), if_neg (by simp [hstop])]
      rfl
  · rw [exec_prove hs hd]
    refine ⟨fun hmode => by rw [doProve_mode hmode], fun hmode hrange => by rw [doProve_range hmode hrange],
      fun hmode hport hrole hn hbusy => ?_, fun p ro hp hro hmode hport hrole hn hfree => ?_⟩
    · rw [doProve_inRange hmode (portOfCode_of_le hport) (roleOfCode_of_le hrole) hn,
        if_pos (Option.isSome_iff_ne_none.2 hbusy)]
    · rw [doProve_inRange hmode (portOfCode_some hport hp) (roleOfCode_some hrole hro) hn, if_neg (by simp [hfree])]
      have hlink := startRun_link p ro n s
      rw [enterProving_eq] at hlink
      refine ⟨_, startRun p ro n s, rfl, rfl, rfl, by rw [hlink], fun hcheck => by rw [hlink, if_pos hcheck],
        fun hgenerate => by rw [hlink, if_neg (by simp [hgenerate])], by rw [hlink], by rw [hlink], ?_,
        fun hlinked => leftLinked_startRun hlinked ro n, hlink, fun hlinked => ?_, sameOutsidePorts_startRun p ro n s⟩
      · rw [startRun_proving, Proving.started, newEngine_eq]
      · rw [hlink, startRun_notLinked hlinked, enterProving_eq]
        simp [State.relinked]

end Sys2Proof.Machine

/-! O13, O14: a flag raised and its NOTICE (R181 to R183), and the answers to requests (R173, R192, R193). -/

namespace Sys2Proof.Machine

/-! ## Bytes of a number of 32 bits -/

/-- A value of 32 bits as its four bytes, most significant first (R194). -/
theorem u32_toNat (v : BitVec 32) :
    u32 v.toNat = [v.extractLsb' 24 8, v.extractLsb' 16 8, v.extractLsb' 8 8, v.extractLsb' 0 8] := by
  simp only [u32, u24, u16, BitVec.extractLsb', Nat.shiftRight_eq_div_pow, Nat.reducePow, Nat.div_one]

/-- The bytes of a NOTICE: the flag number, then TP (R183, R190). -/
theorem noticeFrame_eq (flag : Nat) (tp : Pos) :
    noticeFrame flag tp =
      ⟨0, .notice, [BitVec.ofNat 8 flag, tp.extractLsb' 24 8, tp.extractLsb' 16 8, tp.extractLsb' 8 8, tp.extractLsb' 0 8]⟩ :=
  congrArg (fun bytes => (⟨0, .notice, u8 flag ++ bytes⟩ : Frame)) (u32_toNat tp)

/-! ## A frame of the part joins the return queue -/

theorem pushOwn_room {s : State} (h : s.portU.queue.length < 8) (f : Frame) :
    pushOwn f s = offerReturn { s with portU := { s.portU with queue := s.portU.queue ++ [.own f] } } :=
  if_pos h

theorem pushOwn_full {s : State} (h : 8 ≤ s.portU.queue.length) (f : Frame) :
    pushOwn f s = { s with portU := { s.portU with returnDrops := satInc s.portU.returnDrops } } :=
  if_neg (Nat.not_lt.2 h)

/-! ## Flags -/

theorem raiseOne_set {f : EventFlag} {s : State} (h : s.mgmt.flags.getLsbD f.num = true) : raiseOne f s = s := if_pos h

theorem raiseOne_masked {f : EventFlag} {s : State} (hclear : s.mgmt.flags.getLsbD f.num = false)
    (hmasked : s.mgmt.mask.getLsbD f.num = false) :
    raiseOne f s = setFlags (s.mgmt.flags ||| BitVec.twoPow 15 f.num) s := by
  unfold raiseOne
  rw [if_neg (by simp [hclear])]
  exact if_neg (by simp [hmasked])

/-- Several flags of one event are raised singly, in the order of the table (R183). -/
theorem raise_eq_foldl (fs : List EventFlag) (s : State) :
    raise fs s = (EventFlag.all.filter fun f => decide (f ∈ fs)).foldl (fun t f => raise [f] t) s := by
  simp only [raise_one]
  rfl

/-- Settles O13: a single flag by `raiseOne`, whether it is set, masked or admitted; several by the order of the table. -/
theorem raisingAFlagQueuesOneNotice : Obligations.RaisingAFlagQueuesOneNotice := by
  refine ⟨fun f s hset => ?_, fun f s flags u hclear hflags hu => ?_, fun s => ?_, fun table htable => ?_⟩
  · rw [raise_one, raiseOne_set hset]
  · have hset : setFlags (s.mgmt.flags ||| BitVec.twoPow 15 f.num) s = u := by
      rw [hu, hflags]
      rfl
    have hportU : u.portU = s.portU := by rw [hu]
    rw [raise_one]
    refine ⟨(raiseOne_flags f s).trans hflags.symm, fun hmasked => (raiseOne_masked hclear hmasked).trans hset,
      fun hadmitted hroom => ?_, fun hadmitted hfull => ?_⟩
    all_goals rw [raiseOne_admitted hclear hadmitted, hset]
    · rw [pushOwn_room (by rwa [hportU]), hportU, noticeFrame_eq]
    · rw [pushOwn_full (by rwa [hportU]), hportU]
  · rw [raise_eq_foldl]
    rfl
  · subst htable
    exact ⟨rfl, raise_eq_foldl⟩

/-! ## Answers -/

/-- The ANSWER frame carries the tag and the request code of its request, 0 for either that the payload does not hold (R173,
R193). -/
theorem answerFrame_eq {src : NodeAddr} {payload : List Byte} {tag code : Byte}
    (hnone : payload = [] → tag = 0 ∧ code = 0) (hone : payload.length = 1 → payload = [tag] ∧ code = 0)
    (hmore : 2 ≤ payload.length → ∃ args, payload = tag :: code :: args) (a : Answer) :
    answerFrame ⟨src, payload⟩ a = ⟨src, .answer, tag :: code :: BitVec.ofNat 8 a.code.num :: a.results⟩ := by
  match payload with
  | [] =>
    obtain ⟨rfl, rfl⟩ := hnone rfl
    rfl
  | [b] =>
    obtain ⟨htag, rfl⟩ := hone rfl
    rw [htag]
    rfl
  | b :: c :: more =>
    obtain ⟨args, hargs⟩ := hmore (Nat.le_add_left 2 more.length)
    injection hargs with htag hrest
    injection hrest with hcode
    subst htag hcode
    rfl

/-- Settles O14: the ANSWER frame by `answerFrame_eq`, and its place in the return queue by whether there is room. -/
theorem answersJoinTheReturnQueue : Obligations.AnswersJoinTheReturnQueue := by
  refine ⟨rfl, fun src payload tag code a rest s hnone hone hmore => ?_⟩
  unfold answered
  rw [answerFrame_eq hnone hone hmore]
  exact ⟨fun hroom => pushOwn_room (by exact hroom) _, fun hfull => pushOwn_full (by exact hfull) _⟩

end Sys2Proof.Machine

/-! O50: the next frame on a free lane, and what each transmit lane carries (R154, R163, R164, R179; logs 12, 17). -/

namespace Sys2Proof.Machine

/-! ## The frame on a lane has been sent -/

theorem isDue_iff (r : SoftReset) : r.isDue = true ↔ ∃ kept, r = .due kept := by
  cases r <;> simp [SoftReset.isDue]

theorem exec_portDFrameSent {s : State} (hrun : s.inReset = false) :
    exec .portDFrameSent s = .next (offerForward { s with portD := { s.portD with tx := none } }) :=
  whenRunning_running (fun s => offerForward { s with portD := { s.portD with tx := none } }) hrun

theorem exec_portUFrameSent {s : State} (hrun : s.inReset = false) :
    exec .portUFrameSent s = .next (offerReturn (finishReturn s)) :=
  whenRunning_running (fun s => offerReturn (finishReturn s)) hrun

theorem isResetAnswer_iff (tx : Option TxFrame) :
    (tx.map TxFrame.isResetAnswer).getD false = true ↔ ∃ f, tx = some (.resetAnswer f) := by
  rcases tx with _ | _ | _ | _ <;> simp [TxFrame.isResetAnswer]

/-- The return lane is free, and a SOFT RESET that waited for its answer is due (R179). -/
theorem finishReturn_eq {s : State} {due : SoftReset}
    (hdue : (s.mgmt.softReset = .waiting ∧ ∃ f, s.portU.tx = some (.resetAnswer f)) → due = .due none)
    (hkept : ¬ (s.mgmt.softReset = .waiting ∧ ∃ f, s.portU.tx = some (.resetAnswer f)) → due = s.mgmt.softReset) :
    finishReturn s = { s with portU := { s.portU with tx := none }, mgmt := { s.mgmt with softReset := due } } := by
  rw [← isResetAnswer_iff] at hdue hkept
  unfold finishReturn
  split
  next hanswer =>
    unfold resetDue
    dsimp only
    split
    next hwaiting => rw [hdue ⟨hwaiting, hanswer⟩]
    next hwaiting => rw [hkept fun h => hwaiting h.1]
  next hanswer => rw [hkept fun h => hanswer h.2]

/-! ## The transmit lanes -/

section Lane

variable {p : PortId} {s : State}

theorem txLane_training (h : (s.link p).state = .down ∨ (s.link p).state = .training) :
    txLane p s = .trainingFill (s.link p).locked := by
  unfold txLane
  rcases h with h | h <;> rw [h]

theorem txLane_linked (h : (s.link p).state = .linked) :
    (s.tx p = none → txLane p s = .fill true) ∧ ∀ f, s.tx p = some f → txLane p s = .frame (f.wire s.nodeAddr) := by
  unfold txLane
  rw [h]
  exact ⟨fun htx => by rw [htx], fun f htx => by rw [htx]⟩

theorem txLane_pattern (h : (s.link p).state = .proving) {reg : BitVec 15}
    (hrun : s.proving.run = some ⟨p, .generate, .generator reg⟩) : txLane p s = .pattern reg := by
  unfold txLane
  rw [h, hrun]
  exact if_pos rfl

theorem txLane_noPattern (h : (s.link p).state = .proving)
    (hrun : ∀ reg, s.proving.run ≠ some ⟨p, .generate, .generator reg⟩) : txLane p s = .fill false := by
  unfold txLane
  rw [h]
  dsimp only
  split
  next q reg heq => exact if_neg fun hq : q = p => hrun reg (hq ▸ heq)
  next => rfl

end Lane

/-- Settles O50: the lanes by `offerForward_*` and `offerReturn_*`, the frames sent by their commands, and what a transmit lane
carries by `txLane_*`. -/
theorem freeLanesTakeTheNextFrame : Obligations.FreeLanesTakeTheNextFrame := by
  refine ⟨fun s => ⟨offerForward_held, fun hlinked hfree => ⟨fun b f => offerForward_fire hlinked hfree,
      fun st f rest hfire => (offerForward_rest hlinked hfree hfire).1 st f rest,
      fun bytes rest hfire => (offerForward_rest hlinked hfree hfire).2.1 bytes rest, fun hidle => ?_⟩⟩,
    fun s => ⟨fun h => ?_, fun hlinked hfree hreset => ⟨fun hempty => ?_, fun f rest => ?_⟩⟩,
    fun s => exec_portDFrameSent, fun s due hrun hdue hkept => ?_, fun s p tx hu hd => ?_⟩
  · obtain ⟨-, hfire, hdrive, hrelay⟩ := hidle
    exact (offerForward_rest hlinked hfree hfire).2.2 hdrive hrelay
  · rw [← isDue_iff] at h
    exact offerReturn_held h
  · unfold offerReturn startReturn
    rw [hempty]
    exact ite_self s
  · exact offerReturn_starts hlinked hfree ((isDue_eq_false_iff _).2 hreset)
  · rw [exec_portUFrameSent hrun, finishReturn_eq hdue hkept]
  · have htx : tx = s.tx p := by
      cases p
      · exact hu rfl
      · exact hd rfl
    subst htx
    refine ⟨txLane_training, fun hlinked => ⟨(txLane_linked hlinked).1, fun f hf => ?_,
      fun bytes => (txLane_linked hlinked).2 (.relayed bytes)⟩,
      fun hproving => ⟨fun reg => txLane_pattern hproving, txLane_noPattern hproving⟩⟩
    rcases hf with hf | hf
    · exact (txLane_linked hlinked).2 _ hf
    · exact (txLane_linked hlinked).2 _ hf

end Sys2Proof.Machine

/-! O48: the changes of state of a port (R154 to R156; logs 13, 14, 17, 28). -/

namespace Sys2Proof.Machine

/-! ## The changes of a link -/

theorem checkOwns_iff (s : State) (p : PortId) : checkOwns s p = true ↔ ∃ e, s.proving.run = some ⟨p, .check, e⟩ := by
  unfold checkOwns
  rcases s.proving.run with _ | ⟨q, role, e⟩
  · simp
  · simp [Bool.and_eq_true, decide_eq_true_eq]

/-- A port that leaves LINKED drops its link on the state with the new link, and the flags of the change are raised (R155,
R156). -/
theorem dropLink_setLink (p : PortId) (st : PortState) (s : State) (l : Link) :
    dropLink p st (s.setLink p l) =
      leaveEffects p (s.relinked p { (l.enter st) with retrains := satInc l.retrains } s.proving) := by
  cases p <;> rfl

section Drops

variable (p : PortId) (fs : List EventFlag) (s : State) (l : Link)

theorem raise_leaveEffects_link : (raise fs (leaveEffects p (s.relinked p l s.proving))).link p = l := by
  simp only [raise_frame_at, leaveEffects_frame_at, State.relinked_link]

theorem raise_leaveEffects_proving : (raise fs (leaveEffects p (s.relinked p l s.proving))).proving = s.proving := by
  simp [State.relinked]

theorem sameOutsidePorts_raise_leaveEffects :
    SameOutsidePorts s (raise fs (leaveEffects p (s.relinked p l s.proving))) := by
  unfold SameOutsidePorts
  and_intros
  on_goal 15 => apply Handed.eq_of_fields
  all_goals simp [State.relinked]

end Drops

/-- A port leaves LINKED by a command: its link, what the change does besides, and what it leaves alone. -/
theorem drops_spec {s : State} {p : PortId} {l : Link} {c : Instr} {more : List EventFlag} (hl : l.state ≠ .linked)
    (hexec : exec c s = .next (raise (more ++ leaveFlags p s) (leaveEffects p (s.relinked p l s.proving)))) :
    ∃ t, exec c s = .next t ∧ t.link p = l ∧ LeftLinked p more s t ∧ SameOutsidePorts s t ∧ t.proving = s.proving :=
  ⟨_, hexec, raise_leaveEffects_link _ _ _ _, leftLinked s _ more p hl, sameOutsidePorts_raise_leaveEffects _ _ _ _,
    raise_leaveEffects_proving _ _ _ _⟩

/-! ## The four commands, by the state of the port -/

section Commands

variable {s : State} (hrun : s.inReset = false) {p : PortId}
include hrun

theorem exec_signalDetected :
    ((s.link p).state = .down →
      exec (.signalDetected p) s = .next
        (s.setLink p { s.link p with state := .training, locked := false, warning := false, signal := true }))
      ∧ ((s.link p).state ≠ .down →
        exec (.signalDetected p) s = .next (s.setLink p { s.link p with signal := true })) := by
  change (_ → execSignalDetected p s = _) ∧ (_ → execSignalDetected p s = _)
  rw [execSignalDetected, whenRunning_running _ hrun]
  dsimp only
  exact ⟨fun h => by rw [if_pos h, Link.enter], fun h => by rw [if_neg h]⟩

theorem exec_receiverLocked :
    ((s.link p).state = .training →
      exec (.receiverLocked p) s = .next
        (if (s.link p).partnerReady then becomeLinked p (s.setLink p { s.link p with locked := true })
          else s.setLink p { s.link p with locked := true }))
      ∧ ((s.link p).state = .proving →
        exec (.receiverLocked p) s = .next
          (if checkOwns s p then s else s.setLink p { s.link p with locked := true }))
      ∧ ((s.link p).state = .down ∨ (s.link p).state = .linked → exec (.receiverLocked p) s = .next s) := by
  change (_ → execReceiverLocked p s = _) ∧ (_ → execReceiverLocked p s = _) ∧ (_ → execReceiverLocked p s = _)
  rw [execReceiverLocked, whenRunning_running _ hrun]
  dsimp only
  exact ⟨fun h => by rw [h], fun h => by rw [h], fun h => by rcases h with h | h <;> rw [h]⟩

theorem exec_partnerReadyChange (mark : Bool) :
    ((s.link p).state = .training →
      exec (.partnerReadyChange p mark) s = .next
        (if mark && (s.link p).locked then becomeLinked p (s.setLink p { s.link p with partnerReady := mark })
          else s.setLink p { s.link p with partnerReady := mark }))
      ∧ ((s.link p).state = .linked →
        exec (.partnerReadyChange p mark) s = .next
          (if mark then s.setLink p { s.link p with partnerReady := mark }
            else raise (leaveFlags p s) (dropLink p .training (s.setLink p { s.link p with partnerReady := mark }))))
      ∧ ((s.link p).state = .proving →
        exec (.partnerReadyChange p mark) s = .next
          (if checkOwns s p then s else s.setLink p { s.link p with partnerReady := mark }))
      ∧ ((s.link p).state = .down → exec (.partnerReadyChange p mark) s = .next s) := by
  change (_ → execPartnerReadyChange p mark s = _) ∧ (_ → execPartnerReadyChange p mark s = _)
    ∧ (_ → execPartnerReadyChange p mark s = _) ∧ (_ → execPartnerReadyChange p mark s = _)
  rw [execPartnerReadyChange, whenRunning_running _ hrun]
  dsimp only
  exact ⟨fun h => by rw [h], fun h => by rw [h], fun h => by rw [h], fun h => by rw [h]⟩

theorem exec_signalLoss :
    ((s.link p).state = .linked →
      exec (.signalLoss p) s = .next
        (raise (leaveFlags p s) (dropLink p .down (s.setLink p { s.link p with signal := false }))))
      ∧ ((s.link p).state = .training →
        exec (.signalLoss p) s = .next
          (s.setLink p { s.link p with state := .down, locked := false, warning := false, signal := false }))
      ∧ ((s.link p).state = .proving ∨ (s.link p).state = .down →
        exec (.signalLoss p) s = .next (s.setLink p { s.link p with signal := false })) := by
  change (_ → execSignalLoss p s = _) ∧ (_ → execSignalLoss p s = _) ∧ (_ → execSignalLoss p s = _)
  rw [execSignalLoss, whenRunning_running _ hrun]
  dsimp only
  exact ⟨fun h => by rw [h], fun h => by rw [h, Link.enter], fun h => by rcases h with h | h <;> rw [h]⟩

end Commands

/-- Settles O48: each command by the state of its port; a link-up by `becomeLinked`, a drop by `drops_spec`. -/
theorem portsTrainLinkAndDrop : Obligations.PortsTrainLinkAndDrop := by
  intro s p owned up hrun howned hup
  have hlinks (l : Link) : becomeLinked p (s.setLink p l) = up { l with state := .linked, lossRun := 0 } := by
    rw [hup]
    cases p <;> rfl
  rw [← checkOwns_iff] at howned
  obtain ⟨hlockTraining, hlockProving, hlockIdle⟩ := exec_receiverLocked hrun (p := p)
  obtain ⟨hlossLinked, hlossTraining, hlossOther⟩ := exec_signalLoss hrun (p := p)
  have hmark (mark : Bool) := exec_partnerReadyChange hrun (p := p) mark
  simp only [forall_and] at hmark
  obtain ⟨hmarkTraining, hmarkLinked, hmarkProving, hmarkDown⟩ := hmark
  refine ⟨exec_signalDetected hrun,
    ⟨fun hst hready => ?_, fun hst hready => ?_, fun hst hfree => ?_, fun hst hown => ?_, hlockIdle⟩,
    ⟨fun hst hlocked => ?_, fun mark hst hnot => ?_, fun hst => ?_, fun hst => ?_, fun mark hst hfree => ?_,
      fun mark hst hown => ?_, hmarkDown⟩,
    fun hst => ?_, hlossTraining, hlossOther⟩
  · rw [hlockTraining hst, if_neg (by simp [hready])]
  · rw [hlockTraining hst, if_pos hready, hlinks]
  · rw [hlockProving hst, if_neg (mt howned.2 hfree)]
  · rw [hlockProving hst, if_pos (howned.1 hown)]
  · rw [hmarkTraining true hst, if_pos (by simpa using hlocked), hlinks]
  · rw [hmarkTraining mark hst, if_neg (by rcases hnot with h | h <;> simp [h])]
  · rw [hmarkLinked true hst, if_pos rfl]
  · refine drops_spec (by simp) ((hmarkLinked false hst).trans ?_)
    rw [if_neg Bool.false_ne_true, dropLink_setLink]
    rfl
  · rw [hmarkProving mark hst, if_neg (mt howned.2 hfree)]
  · rw [hmarkProving mark hst, if_pos (howned.1 hown)]
  · refine drops_spec (by simp) ((hlossLinked hst).trans ?_)
    rw [dropLink_setLink]
    rfl

end Sys2Proof.Machine

/-! O49: the close of a monitor window, and code errors (R157 to R160; logs 18, 27, 28). -/

namespace Sys2Proof.Machine

/-! ## The close of a monitor window -/

theorem raise_nil (s : State) : raise [] s = s := rfl

section Close

variable {s : State} (hrun : s.inReset = false) {p : PortId}
include hrun

theorem exec_monitorWindowClose_linked (hst : (s.link p).state = .linked) :
    exec (.monitorWindowClose p) s = .next
      (if nextLossRun s.mgmt.line (s.link p) = 8 then
        raise ((if warns s.mgmt.line (s.link p) then [.linkWarn] else []) ++ leaveFlags p s)
          (dropLink p .training (s.setLink p (closeWindow s.mgmt.line (s.link p))))
      else raise (if warns s.mgmt.line (s.link p) then [.linkWarn] else [])
        (s.setLink p (closeWindow s.mgmt.line (s.link p)))) := by
  change execMonitorWindowClose p s = _
  rw [execMonitorWindowClose, whenRunning_running _ hrun]
  exact congrArg _ (if_pos hst)

theorem exec_monitorWindowClose_notLinked (hst : (s.link p).state ≠ .linked) :
    exec (.monitorWindowClose p) s = .next (s.setLink p { s.link p with windowErrors := 0 }) := by
  change execMonitorWindowClose p s = _
  rw [execMonitorWindowClose, whenRunning_running _ hrun]
  exact congrArg _ (if_neg hst)

theorem exec_codeError (inFrame : Bool) :
    exec (.codeError p inFrame) s = .next (if (s.link p).locked then
      s.setLink p { s.link p with
        windowErrors := min ((s.link p).windowErrors + 1) 65535
        codeErrors := satInc (s.link p).codeErrors
        badFrames := if inFrame && takesFrames s p then satInc (s.link p).badFrames else (s.link p).badFrames }
      else s) := by
  change execCodeError p inFrame s = _
  rw [execCodeError, whenRunning_running _ hrun]

end Close

/-- A locked port takes frames in LINKED, and in PROVING unless the run owns its receive lane (R160, R165). -/
theorem takesFrames_locked {s : State} {p : PortId} (h : (s.link p).locked = true) :
    takesFrames s p = true ↔ (s.link p).state = .linked
      ∨ ((s.link p).state = .proving ∧ ∀ e, s.proving.run ≠ some ⟨p, .check, e⟩) := by
  rw [takesFrames_iff]
  simp only [h, true_and]

/-- LINK_WARN raised after Port U has left LINKED, with no relayed frame cut off: its NOTICE waits behind the frames kept
(R156, R158; log 28). -/
theorem linkWarn_notice {s : State} {l : Link} (hl : l.state ≠ .linked)
    (hclear : s.mgmt.flags.getLsbD EventFlag.linkWarn.num = false)
    (hadmitted : s.mgmt.mask.getLsbD EventFlag.linkWarn.num = true) (hcut : ¬ cutsRelayed s.portU.tx)
    (hroom : s.portU.queue.length < 8) (run : Proving) :
    (raise ([.linkWarn] ++ leaveFlags .u s) (leaveEffects .u (s.relinked .u l run))).portU.queue =
      s.portU.queue ++ [.own (noticeFrame 5 s.pos.tp)] := by
  have hflags : leaveFlags .u s = [] := if_neg (mt (cutsRelayed_iff _).1 hcut)
  rw [hflags, List.append_nil, raise_one, raiseOne_admitted (by simpa [State.relinked] using hclear)
    (by simpa [State.relinked] using hadmitted),
    pushOwn_notLinked (by simpa [State.relinked] using hl) (by simpa [State.relinked] using hroom)]
  simp [State.relinked, EventFlag.num]

/-- Settles O49: a close in LINKED by whether it declares loss (`drops_spec`), a close in another state, and a code error. -/
theorem laneQualityWarnsAndDeclaresLoss : Obligations.LaneQualityWarnsAndDeclaresLoss := by
  refine ⟨fun s p run warning sets hrun hlinked hloss hsets hwarning => ?_,
    fun s p hrun hst => exec_monitorWindowClose_notLinked hrun hst,
    fun s p inFrame takes hrun htakes => ⟨fun hlocked => ?_, fun hlocked => ?_⟩⟩
  · have hexec := exec_monitorWindowClose_linked hrun hlinked
    have hclose : closeWindow s.mgmt.line (s.link p) = { s.link p with
        windowErrors := 0, lossRun := run, warning := warning
        warnings := if sets then satInc (s.link p).warnings else (s.link p).warnings } := by
      rw [hloss, hsets, hwarning]
      rfl
    rw [hclose, show nextLossRun s.mgmt.line (s.link p) = run from hloss.symm,
      show warns s.mgmt.line (s.link p) = sets from hsets.symm] at hexec
    refine ⟨fun hkept => by rw [hexec, if_neg hkept], fun hdeclared => ?_⟩
    rw [if_pos hdeclared, dropLink_setLink] at hexec
    generalize ht : raise _ (leaveEffects p _) = t at hexec
    have hlink : t.link p = { s.link p with
        state := .training, locked := false, warning := false, windowErrors := 0, lossRun := run
        retrains := satInc (s.link p).retrains
        warnings := if sets then satInc (s.link p).warnings else (s.link p).warnings } := by
      rw [← ht]
      exact raise_leaveEffects_link p _ s _
    have hwarned : sets = true → t.mgmt.flags.getLsbD EventFlag.linkWarn.num = true := fun hset => by
      rw [← ht]
      exact raise_sets _ _ _ (by simp [hset])
    refine ⟨t, hexec, by rw [hlink], by rw [hlink], by rw [hlink], by rw [hlink], by rw [hlink], by rw [hlink],
      by rw [hlink], hwarned, fun hu hset hclear hadmitted hcut hroom => ?_, ?_, ?_, ?_⟩
    · subst hu
      rw [← ht, if_pos hset, linkWarn_notice (by simp [Link.enter]) hclear hadmitted hcut hroom, noticeFrame_eq]
      rfl
    · rw [← ht]
      exact leftLinked s _ _ p (by simp [Link.enter])
    · rw [← ht]
      exact sameOutsidePorts_raise_leaveEffects p _ s _
    · rw [← ht]
      exact raise_leaveEffects_proving p _ s _
  · have htaken : takesFrames s p = takes := Bool.eq_iff_iff.2 ((takesFrames_locked hlocked).trans htakes.symm)
    rw [exec_codeError hrun, if_pos hlocked, htaken]
  · rw [exec_codeError hrun, if_neg (by simp [hlocked])]

end Sys2Proof.Machine

/-! O51: proving runs, the generator's sequence and the checker (R166 to R169; logs 15, 16). -/

namespace Sys2Proof.Machine

/-! ## The bits taken, and the end of a run -/

theorem leaveProving_eq (p : PortId) (s : State) :
    leaveProving p s = s.setLink p { s.link p with
      state := if (s.link p).signal = true then .training else .down, locked := false, warning := false } := by
  unfold leaveProving
  split <;> rfl

/-- The checker of the run takes the bits, and the result counts their mismatches (R167). -/
theorem feedChecker_eq {s : State} {p : PortId} {role : ProvingRole} {c : Checker} {r : ProvingResult} {want : Bool}
    (hproving : s.proving = ⟨some ⟨p, role, .checker c⟩, some r⟩) (hc : c.isSynced = want) (bits : List Bool) :
    feedChecker want bits s = { s with proving :=
      ⟨some ⟨p, role, .checker (c.feed bits).1⟩, some (r.addMismatches (c.feed bits).2)⟩ } := by
  unfold feedChecker
  rw [hproving]
  exact if_pos hc

/-- The end of a run: its port leaves PROVING, its result is final, its port reports the expiry (R168, R169). -/
theorem exec_provingExpiry {s : State} (hrun : s.inReset = false) {run : ProvingRun} {r : ProvingResult}
    (hproving : s.proving = ⟨some run, some r⟩) :
    exec .provingExpiry s = .next
      { s.setLink run.port { s.link run.port with
          state := if (s.link run.port).signal = true then .training else .down
          locked := false, warning := false } with
        proving := ⟨none, some { r with status := finalStatus run r }⟩
        handed := (reportExpiry run.port s).handed } := by
  change execProvingExpiry s = _
  rw [execProvingExpiry, whenRunning_running _ hrun, endRun, hproving]
  dsimp only
  rw [leaveProving_eq]
  rcases run with ⟨_ | _, _, _⟩ <;> rfl

/-! ## The register -/

/-- A shift toward stage 15: the new bit at stage 1, every other bit one stage on (R166). -/
theorem shiftIn_getLsbD (reg : BitVec 15) (bit : Bool) {i : Nat} (hi : i < 15) :
    (shiftIn reg bit).getLsbD i = if i = 0 then bit else reg.getLsbD (i - 1) := by
  unfold shiftIn
  rw [BitVec.getLsbD_or, BitVec.getLsbD_shiftLeft, BitVec.getLsbD_setWidth, BitVec.getLsbD_ofBool]
  by_cases h : i = 0
  · simp [h]
  · simp [h, hi]

theorem eq_shiftIn_iff {reg next : BitVec 15} {bit : Bool} :
    next = shiftIn reg bit ↔
      ∀ i : Fin 15, next.getLsbD i.val = if i.val = 0 then bit else reg.getLsbD (i.val - 1) := by
  refine ⟨fun h i => h ▸ shiftIn_getLsbD reg bit i.isLt, fun h => BitVec.eq_of_getLsbD_eq fun i hi => ?_⟩
  rw [h ⟨i, hi⟩, shiftIn_getLsbD reg bit hi]

/-- Bits shifted in one after another: the last bit at stage 1, and what stood there before further on. -/
theorem foldl_shiftIn_getLsbD (bits : List Bool) (reg : BitVec 15) {i : Nat} (hi : i < 15) :
    (bits.foldl shiftIn reg).getLsbD i =
      if i < bits.length then bits.getD (bits.length - 1 - i) false else reg.getLsbD (i - bits.length) := by
  induction bits using List.reverseRecOn generalizing i with
  | nil => rfl
  | append_singleton bits bit ih =>
    rw [List.foldl_append, List.foldl_cons, List.foldl_nil, shiftIn_getLsbD _ _ hi, List.length_append,
      List.length_singleton, Nat.add_sub_cancel]
    by_cases h0 : i = 0
    · simp [h0]
    · rw [if_neg h0, ih (by omega)]
      by_cases hlt : i < bits.length + 1
      · rw [if_pos hlt, if_pos (by omega), List.getD_append _ _ _ _ (by omega)]
        congr 1
        omega
      · rw [if_neg hlt, if_neg (by omega)]
        congr 1
        omega

/-- Fifteen bits fill the register, whatever stood there. -/
theorem foldl_shiftIn_fill {bits : List Bool} (h : bits.length = 15) (reg reg' : BitVec 15) :
    bits.foldl shiftIn reg = bits.foldl shiftIn reg' := by
  refine BitVec.eq_of_getLsbD_eq fun i hi => ?_
  rw [foldl_shiftIn_getLsbD bits reg hi, foldl_shiftIn_getLsbD bits reg' hi, if_pos (by omega), if_pos (by omega)]

/-! ## The generator -/

/-- The generator's register after `n` bits (R166). -/
def generatorAfter (n : Nat) (reg : BitVec 15) : BitVec 15 := (generatorBits n reg).foldl shiftIn reg

theorem generatorBits_succ (n : Nat) (reg : BitVec 15) :
    generatorBits (n + 1) reg = feedback reg :: generatorBits n (shiftIn reg (feedback reg)) := rfl

theorem generatorAfter_succ (n : Nat) (reg : BitVec 15) :
    generatorAfter (n + 1) reg = generatorAfter n (shiftIn reg (feedback reg)) := rfl

theorem generatorBits_length (n : Nat) (reg : BitVec 15) : (generatorBits n reg).length = n := by
  induction n generalizing reg with
  | zero => rfl
  | succ n ih => rw [generatorBits_succ, List.length_cons, ih]

/-- The sequence goes on from the register that its first bits leave (R166). -/
theorem generatorBits_add (m n : Nat) (reg : BitVec 15) :
    generatorBits (m + n) reg = generatorBits m reg ++ generatorBits n (generatorAfter m reg) := by
  induction m generalizing reg with
  | zero => rw [Nat.zero_add]; rfl
  | succ m ih => rw [Nat.succ_add, generatorBits_succ, generatorBits_succ, ih, generatorAfter_succ, List.cons_append]

theorem generatorAfter_add (m n : Nat) (reg : BitVec 15) :
    generatorAfter (m + n) reg = generatorAfter n (generatorAfter m reg) := by
  induction m generalizing reg with
  | zero => rw [Nat.zero_add]; rfl
  | succ m ih => rw [Nat.succ_add, generatorAfter_succ, ih, generatorAfter_succ]

/-- A register that is not all 0 never becomes all 0 (R166): stage 15 comes back through the feedback. -/
theorem shiftIn_feedback_ne_zero {reg : BitVec 15} (h : reg ≠ 0) : shiftIn reg (feedback reg) ≠ 0 := by
  intro hzero
  have hbit {i : Nat} (hi : i < 15) : (if i = 0 then feedback reg else reg.getLsbD (i - 1)) = false := by
    rw [← shiftIn_getLsbD reg _ hi, hzero]
    exact BitVec.getLsbD_zero
  have hlow {i : Nat} (hi : i < 14) : reg.getLsbD i = false := by
    simpa using hbit (i := i + 1) (by omega)
  have hlast : reg.getLsbD 14 = false := by
    have hfeedback : feedback reg = false := by simpa using hbit (i := 0) (by decide)
    rwa [feedback, hlow (i := 13) (by decide), Bool.bne_false] at hfeedback
  refine h (BitVec.eq_of_getLsbD_eq fun i hi => Eq.trans ?_ BitVec.getLsbD_zero.symm)
  by_cases hi14 : i = 14
  · rw [hi14, hlast]
  · exact hlow (by omega)

theorem generatorAfter_ne_zero (n : Nat) {reg : BitVec 15} (h : reg ≠ 0) : generatorAfter n reg ≠ 0 := by
  induction n generalizing reg with
  | zero => exact h
  | succ n ih => exact ih (shiftIn_feedback_ne_zero h)

/-! ## The checker -/

theorem feed_cons (bit : Bool) (bits : List Bool) (c : Checker) :
    Checker.feed (bit :: bits) c =
      ((Checker.feed bits (c.step bit).1).1, (Checker.feed bits (c.step bit).1).2 + (c.step bit).2.toNat) := rfl

theorem feed_append (first more : List Bool) (c : Checker) :
    Checker.feed (first ++ more) c =
      ((Checker.feed more (Checker.feed first c).1).1,
        (Checker.feed first c).2 + (Checker.feed more (Checker.feed first c).1).2) := by
  induction first generalizing c with
  | nil => rw [List.nil_append]; exact Prod.ext rfl (Nat.zero_add _).symm
  | cons bit first ih =>
    rw [List.cons_append, feed_cons, ih, feed_cons]
    exact Prod.ext rfl (by dsimp only; omega)

/-- Fewer bits than a seed still lacks are loaded, with no mismatch (R167). -/
theorem feed_seeding {bits : List Bool} {n : Nat} (h : n + bits.length < 15) (reg : BitVec 15) :
    Checker.feed bits (.seeding reg n) = (.seeding (bits.foldl shiftIn reg) (n + bits.length), 0) := by
  induction bits generalizing n reg with
  | nil => rfl
  | cons bit bits ih =>
    rw [List.length_cons] at h
    have hstep : (Checker.seeding reg n).step bit = (.seeding (shiftIn reg bit) (n + 1), false) :=
      congrArg (·, false) (if_neg (by omega))
    rw [feed_cons, hstep, ih (by omega), List.length_cons, Nat.add_right_comm]
    rfl

/-- The next 15 bits are the seed (R167). -/
theorem feed_fresh_seed {bits : List Bool} (h : bits.length = 15) :
    Checker.feed bits .fresh = (.seeded (bits.foldl shiftIn 0), 0) := by
  obtain rfl | ⟨first, last, rfl⟩ := List.eq_nil_or_concat' bits
  · cases h
  have hfirst : first.length = 14 := by simpa using h
  rw [feed_append, Checker.fresh, feed_seeding (by omega), List.foldl_append, hfirst]
  rfl

theorem step_matching (bit : Bool) (reg : BitVec 15) (n : Nat) :
    (bit ≠ feedback reg → (Checker.matching reg n).step bit = (.fresh, false))
      ∧ (bit = feedback reg → (Checker.matching reg n).step bit =
        (if n + 1 = 64 then .synced (shiftIn reg (feedback reg))
          else .matching (shiftIn reg (feedback reg)) (n + 1), false)) := by
  refine ⟨fun h => if_neg h, fun h => ?_⟩
  subst h
  exact if_pos rfl

/-- As many matches as a checker still lacks synchronise it, on the generator's own sequence (R167). -/
theorem feed_matching_generator {n : Nat} (reg : BitVec 15) (k : Nat) (h : k + (n + 1) = 64) :
    Checker.feed (generatorBits (n + 1) reg) (.matching reg k) = (.synced (generatorAfter (n + 1) reg), 0) := by
  induction n generalizing reg k with
  | zero =>
    rw [generatorBits_succ, feed_cons, (step_matching _ reg k).2 rfl, if_pos h]
    rfl
  | succ n ih =>
    rw [generatorBits_succ, feed_cons, (step_matching _ reg k).2 rfl, if_neg (by omega), ih _ _ (by omega)]
    rfl

/-- A fresh checker synchronises on 79 bits of a running sequence (R167). -/
theorem feed_fresh_generator {reg : BitVec 15} (h : reg ≠ 0) :
    Checker.feed (generatorBits 79 reg) .fresh = (.synced (generatorAfter 79 reg), 0) := by
  have hseed : (generatorBits 15 reg).foldl shiftIn 0 = generatorAfter 15 reg :=
    foldl_shiftIn_fill (generatorBits_length 15 reg) 0 reg
  rw [generatorBits_add 15 64, feed_append, feed_fresh_seed (generatorBits_length 15 reg), hseed, Checker.seeded,
    if_neg (generatorAfter_ne_zero 15 h), feed_matching_generator _ 0 rfl,
    generatorAfter_add 15 64]
  rfl

/-- A synchronised checker counts each wrong bit once (R167). -/
theorem feed_synced_flips (flips : List Bool) (reg : BitVec 15) :
    Checker.feed (List.zipWith (· != ·) (generatorBits flips.length reg) flips) (.synced reg) =
      (.synced (generatorAfter flips.length reg), flips.count true) := by
  induction flips generalizing reg with
  | nil => rfl
  | cons flip flips ih =>
    rw [List.length_cons, generatorBits_succ, List.zipWith_cons_cons, feed_cons]
    have hstep : (Checker.synced reg).step (feedback reg != flip) = (.synced (shiftIn reg (feedback reg)), flip) := by
      cases flip <;> simp [Checker.step]
    rw [hstep, ih, List.count_cons, generatorAfter_succ]
    cases flip <;> rfl

theorem step_synced (bit : Bool) (reg : BitVec 15) :
    (Checker.synced reg).step bit = (.synced (shiftIn reg (feedback reg)), decide (bit ≠ feedback reg)) := rfl

/-- One bit fed is one step. -/
theorem feed_singleton (bit : Bool) (c : Checker) :
    Checker.feed [bit] c = ((c.step bit).1, (c.step bit).2.toNat) :=
  Prod.ext rfl (Nat.zero_add _)

/-- The seed, bit by bit, the first of the 15 at stage 15 (R167). -/
theorem foldl_shiftIn_eq_seed {bits : List Bool} {seed : BitVec 15} (h : bits.length = 15)
    (hseed : ∀ i : Fin 15, bits.getD i.val false = seed.getLsbD (14 - i.val)) (reg : BitVec 15) :
    bits.foldl shiftIn reg = seed := by
  refine BitVec.eq_of_getLsbD_eq fun i hi => ?_
  rw [foldl_shiftIn_getLsbD bits reg hi, if_pos (by omega), h, hseed ⟨14 - i, by omega⟩]
  congr 1
  dsimp only
  omega

/-- Settles O51: the commands by what `feedChecker` and `endRun` do; the checker by `feed_*` and `step_*`, on the generator's
sequence and on any bits. -/
theorem provingRunsCheckAndExpire : Obligations.ProvingRunsCheckAndExpire := by
  refine ⟨fun s p role c r bits hrun hproving => ⟨fun hc => ?_, fun hc => ?_⟩,
    fun s run r st hrun hproving hst => ?_,
    fun reg hreg => ⟨generatorAfter 79 reg, feed_fresh_generator hreg, fun n => ?_⟩,
    fun flips reg => ⟨_, feed_synced_flips flips reg⟩, fun first more c d e n m hfirst hmore => ?_,
    fun bits hshort => ⟨bits.foldl shiftIn 0, ?_⟩, fun bits seed hlength hseed => ?_,
    fun reg next n bit predicted hpredicted hnext => ?_, fun reg n => ⟨rfl, rfl, rfl⟩⟩
  · exact (whenRunning_running (feedChecker false bits) hrun).trans (congrArg _ (feedChecker_eq hproving hc bits))
  · exact (whenRunning_running (feedChecker true bits) hrun).trans (congrArg _ (feedChecker_eq hproving hc bits))
  · have hstatus : finalStatus run r = st := by
      rw [hst]
      rcases run with ⟨p, role, _ | c⟩
      · rfl
      · cases h : c.isSynced <;> simp [finalStatus, h]
    rw [exec_provingExpiry hrun hproving, hstatus]
    rcases run with ⟨_ | _, _, _⟩ <;> rfl
  · rw [generatorBits_add, List.drop_left' (generatorBits_length 79 reg)]
  · rw [feed_append, hfirst, hmore]
  · rw [Checker.fresh, feed_seeding (by omega), Nat.zero_add]
  · rw [feed_fresh_seed hlength, foldl_shiftIn_eq_seed hlength hseed, Checker.seeded]
    exact ⟨fun h => by rw [if_neg h], fun h => by rw [if_pos h]⟩
  · obtain rfl : next = shiftIn reg predicted := eq_shiftIn_iff.2 hnext
    obtain rfl : predicted = feedback reg := hpredicted
    obtain ⟨hwrong, hright⟩ := step_matching bit reg n
    simp only [feed_singleton]
    refine ⟨fun h => by rw [hwrong h]; rfl, fun h hn => ?_, fun h hn => ?_, ?_⟩
    · rw [hright h, if_neg (by omega)]
      rfl
    · rw [hright h, if_pos (by omega)]
      rfl
    · rw [step_synced]
      by_cases h : bit = feedback reg <;> simp [h]

end Sys2Proof.Machine

/-! O16: the bytes of frames and payloads (R160, R186 to R191). -/

namespace Sys2Proof.Machine

/-! ## The lanes of an image -/

theorem packLanes_length (image : Image) (lanes : Nat) : (packLanes image lanes).length = (lanes + 7) / 8 := by
  simp [packLanes]

/-- A lane in its byte, and 0 beyond the lane count (R190, R191). -/
theorem packLanes_getLsbD (image : Image) {lanes k : Nat} (hlanes : lanes ≤ 128) (hk : k < 8 * ((lanes + 7) / 8)) :
    ((packLanes image lanes).getD (k / 8) 0).getLsbD (k % 8) = (decide (k < lanes) && image.getLsbD k) := by
  have hj : k / 8 < (lanes + 7) / 8 := by omega
  have hbyte : (packLanes image lanes).getD (k / 8) 0 =
      ((image &&& (BitVec.allOnes 128 >>> (128 - lanes))) >>> (8 * (k / 8))).setWidth 8 := by
    simp [packLanes, hj]
  have hmask : (BitVec.allOnes 128 >>> (128 - lanes)).getLsbD k = decide (k < lanes) := by
    rw [BitVec.getLsbD_ushiftRight, BitVec.getLsbD_allOnes]
    exact decide_eq_decide.2 (by omega)
  rw [hbyte, BitVec.getLsbD_setWidth, BitVec.getLsbD_ushiftRight, Nat.div_add_mod, BitVec.getLsbD_and, hmask,
    decide_eq_true (Nat.mod_lt k (by decide)), Bool.true_and, Bool.and_comm]

theorem fireFrame_payload (node : Nat) (slot : BitVec 8) (lanes : Nat) (image : Image) :
    (fireFrame node slot lanes image).payload = slot :: BitVec.ofNat 8 lanes :: packLanes image lanes := rfl

theorem fireFrame_lane (node : Nat) (slot : BitVec 8) (lanes : Nat) (image : Image) (j : Nat) :
    (fireFrame node slot lanes image).payload.getD (2 + j) 0 = (packLanes image lanes).getD j 0 := by
  rw [fireFrame_payload, Nat.add_comm]
  rfl

/-! ## Kinds and the CRC -/

theorem FrameKind.ofCode_eq_some {n : Nat} {k : FrameKind} : FrameKind.ofCode n = some k ↔ n = k.code := by
  unfold FrameKind.ofCode
  split <;> cases k <;> simp_all [FrameKind.code]

theorem FrameKind.ofCode_code (k : FrameKind) : FrameKind.ofCode k.code = some k := FrameKind.ofCode_eq_some.2 rfl

theorem FrameKind.code_lt (k : FrameKind) : k.code < 16 := by cases k <;> decide

theorem crcBit_eq (crc : BitVec 16) (bit : Bool) :
    crcBit crc bit = if crc.getLsbD 15 = bit then crc <<< 1 else (crc <<< 1) ^^^ 0x8005#16 := by
  unfold crcBit
  rw [BitVec.msb_eq_getLsbD_last]
  simp only [bne_iff_ne, ne_eq, ite_not]

theorem crc16_append_singleton (bs : List Byte) (b : Byte) : crc16 (bs ++ [b]) = crcByte (crc16 bs) b := by
  simp only [crc16, List.foldl_append, List.foldl_cons, List.foldl_nil]

/-- A byte goes into the CRC bit by bit, the most significant first (R160). -/
theorem crcByte_eq (crc : BitVec 16) (b : Byte) :
    crcByte crc b =
      [b.getLsbD 7, b.getLsbD 6, b.getLsbD 5, b.getLsbD 4, b.getLsbD 3, b.getLsbD 2, b.getLsbD 1, b.getLsbD 0].foldl
        (fun (c : BitVec 16) bit => if c.getLsbD 15 = bit then c <<< 1 else (c <<< 1) ^^^ 0x8005#16) crc := by
  simp only [crcByte, List.foldl_cons, List.foldl_nil, crcBit_eq]

/-- A CRC as its two bytes, the more significant first (R160). -/
theorem u16_bytes (v : BitVec 16) : BitVec.ofNat 8 (v.toNat / 256) ++ BitVec.ofNat 8 v.toNat = v := by
  refine BitVec.eq_of_toNat_eq ?_
  rw [toNat_append_byte, BitVec.toNat_ofNat, BitVec.toNat_ofNat]
  omega

/-! ## Which runs of bytes are frames -/

/-- The CRC of a frame against its last two bytes (R160). -/
theorem crc_agrees_iff {bs : List Byte} (h : 6 ≤ bs.length) (crc : BitVec 16) :
    crc.toNat = fld bs (bs.length - 2) 2 ↔ crc = bs.getD (bs.length - 2) 0 ++ bs.getD (bs.length - 1) 0 := by
  rw [(fld_bigEndian bs (bs.length - 2)).2.1 (by omega), show bs.length - 2 + 1 = bs.length - 1 by omega]
  exact BitVec.toNat_inj

/-- The checks of a frame received (R160, R187). -/
theorem parseFrame_eq_some_iff (bs : List Byte) (f : RxFrame) : parseFrame bs = some f ↔
    bs.length = 6 + (bs.getD 3 0).toNat ∧ bs.length ≤ 244
      ∧ crc16 (bs.take (bs.length - 2)) = bs.getD (bs.length - 2) 0 ++ bs.getD (bs.length - 1) 0
      ∧ FrameKind.ofCode ((bs.getD 2 0).toNat % 16) = some f.kind
      ∧ f.dest = (bs.getD 0 0).setWidth 6 ∧ f.dest ≠ 63 ∧ f.src = (bs.getD 1 0).setWidth 6
      ∧ f.payload = (bs.drop 4).take (bs.length - 6)
      ∧ (f.kind = .detect → (detectRecords f.payload).isSome = true) := by
  unfold parseFrame
  by_cases hshort : bs.length < 4
  · rw [if_pos hshort]
    exact iff_of_false nofun fun h => by omega
  rw [if_neg hshort, fld_one bs 3 (by omega), fld_one bs 2 (by omega)]
  simp only [Option.ite_none_left_eq_some, not_lt, ne_eq, not_not, Config.frameMaxBytes]
  rw [and_left_comm]
  refine and_congr_right fun hlength => and_congr_right fun _ => ?_
  rw [crc_agrees_iff (by omega)]
  refine and_congr_right fun _ => ?_
  rcases FrameKind.ofCode ((bs.getD 2 0).toNat % 16) with _ | k
  · exact iff_of_false nofun fun h => nomatch h.1
  simp only [Option.ite_none_left_eq_some, Option.some.injEq]
  rcases f with ⟨dest, src, kind, payload⟩
  simp only [RxFrame.mk.injEq]
  constructor
  · rintro ⟨hdest, hdetect, rfl, rfl, rfl, rfl⟩
    exact ⟨rfl, rfl, hdest, rfl, rfl, fun hk => by simpa [hk, Option.isSome_iff_ne_none] using hdetect⟩
  · rintro ⟨rfl, rfl, hdest, rfl, rfl, hdetect⟩
    exact ⟨hdest, fun h => by simpa [Option.isNone_iff_eq_none.1 h.2] using hdetect h.1, rfl, rfl, rfl, rfl⟩

/-! ## A frame that the part builds -/

/-- The header and the payload of a frame that the part builds (R186, R187). -/
def Frame.body (addr : NodeAddr) (f : Frame) : List Byte :=
  f.dest.setWidth 8 :: addr.setWidth 8 :: BitVec.ofNat 8 f.kind.code :: BitVec.ofNat 8 f.payload.length :: f.payload

section Wire

variable (f : Frame) (addr : NodeAddr)

theorem Frame.body_length : (f.body addr).length = 4 + f.payload.length := Nat.add_comm _ 4

theorem Frame.wire_eq : f.wire addr =
    f.body addr ++ [BitVec.ofNat 8 ((crc16 (f.body addr)).toNat / 256), BitVec.ofNat 8 (crc16 (f.body addr)).toNat] := rfl

theorem Frame.wire_length : (f.wire addr).length = 6 + f.payload.length := by
  rw [Frame.wire_eq, List.length_append, Frame.body_length]
  exact Nat.add_right_comm 4 _ 2

theorem Frame.wire_payload : ((f.wire addr).drop 4).take f.payload.length = f.payload := List.take_left

/-- The last two bytes are the CRC of those before them (R160). -/
theorem Frame.wire_crc : crc16 ((f.wire addr).take (4 + f.payload.length)) =
    (f.wire addr).getD (4 + f.payload.length) 0 ++ (f.wire addr).getD (5 + f.payload.length) 0 := by
  rw [Frame.wire_eq, ← Frame.body_length f addr, List.take_left, getD_skip rfl (le_refl _),
    getD_skip rfl (by rw [Frame.body_length]; omega), Nat.sub_self,
    show 5 + f.payload.length - (f.body addr).length = 1 by rw [Frame.body_length]; omega]
  exact (u16_bytes _).symm

/-- The byte of the kind holds its code, with the flags 0 (R186, R187). -/
theorem Frame.wire_kind : FrameKind.ofCode (((f.wire addr).getD 2 0).toNat % 16) = some f.kind
    ∧ ((f.wire addr).getD 2 0).toNat / 16 = 0 := by
  have hlt : f.kind.code < 16 := f.kind.code_lt
  have hcode : ((f.wire addr).getD 2 0).toNat = f.kind.code := byte_toNat (hlt.trans (by decide))
  rw [hcode, Nat.mod_eq_of_lt hlt, Nat.div_eq_of_lt hlt]
  exact ⟨f.kind.ofCode_code, rfl⟩

end Wire

/-- An address in its byte, bits 7 and 6 of it 0 (R187). -/
theorem address_byte (a : NodeAddr) :
    (a.setWidth 8).setWidth 6 = a ∧ (a.setWidth 8).getLsbD 6 = false ∧ (a.setWidth 8).getLsbD 7 = false := by
  refine ⟨?_, ?_, ?_⟩ <;> simp

/-- A frame that the part builds reads back as built, where its payload fits (R160, R186, R187). -/
theorem Frame.parseFrame_wire {f : Frame} (addr : NodeAddr) (hdest : f.dest ≠ 63) (hkind : f.kind ≠ .detect)
    (hlength : f.payload.length ≤ 238) : parseFrame (f.wire addr) = some ⟨f.dest, addr, f.kind, f.payload⟩ := by
  have hcount : ((f.wire addr).getD 3 0).toNat = f.payload.length := byte_toNat (by omega)
  rw [parseFrame_eq_some_iff, f.wire_length, hcount, show 6 + f.payload.length - 2 = 4 + f.payload.length by omega,
    show 6 + f.payload.length - 1 = 5 + f.payload.length by omega, Nat.add_sub_cancel_left, f.wire_payload]
  exact ⟨rfl, by omega, f.wire_crc addr, (f.wire_kind addr).1, (address_byte f.dest).1.symm, hdest,
    (address_byte addr).1.symm, rfl, fun h => absurd h hkind⟩

/-! ## DETECT payloads -/

theorem detectRecords_eq_some_iff (payload : List Byte) (records : List Detection) :
    detectRecords payload = some records ↔
      ∃ n rest, payload = n :: rest ∧ 1 ≤ n.toNat ∧ n.toNat ≤ 8 ∧ parseRecords n.toNat rest = some records := by
  rcases payload with _ | ⟨n, rest⟩
  · simp [detectRecords]
  · simp [detectRecords, Option.ite_none_right_eq_some, and_assoc]

theorem parseRecords_zero_iff (bs : List Byte) (records : List Detection) :
    parseRecords 0 bs = some records ↔ bs = [] ∧ records = [] := by
  rcases bs with _ | ⟨b, bs⟩
  · simp [parseRecords, eq_comm]
  · simp [parseRecords]

theorem parseRecords_succ_iff (n : Nat) (bs : List Byte) (records : List Detection) :
    parseRecords (n + 1) bs = some records ↔
      ∃ r rest more, parseRecord bs = some (r, rest) ∧ parseRecords n rest = some more ∧ records = r :: more := by
  rw [parseRecords]
  rcases parseRecord bs with _ | ⟨r, rest⟩
  · simp
  · simp [eq_comm]

/-! ### The fields of a record -/

/-- A record by the place of its tag and its size (R188). -/
theorem parseRecord_eq {bs : List Byte} {tagAt size : Nat}
    (htag : tagAt = if (bs.getD 0 0).getLsbD 0 then 17 else 16)
    (hsize : size = if (bs.getD 0 0).getLsbD 1 then tagAt + 4 else tagAt) :
    parseRecord bs = if bs.length < size then none else some
      ({ laneLo := fld bs 1 1
         laneHi := fld bs 2 1
         leadPos := BitVec.ofNat 32 (fld bs 3 4)
         trailPos := BitVec.ofNat 32 (fld bs 7 4)
         cls := BitVec.ofNat 16 (fld bs 11 2)
         area := fld bs 13 2
         confidence := fld bs 15 1
         centroid := if (bs.getD 0 0).getLsbD 0 then some (fld bs 16 1) else none
         tag := if (bs.getD 0 0).getLsbD 1 then some (BitVec.ofNat 32 (fld bs tagAt 4)) else none
         touching := (bs.getD 0 0).getLsbD 2
         atEdge := (bs.getD 0 0).getLsbD 3 }, bs.drop size) := by
  subst hsize htag
  rfl

theorem ofNat_fld_two {bs : List Byte} {i : Nat} (h : i + 2 ≤ bs.length) :
    BitVec.ofNat 16 (fld bs i 2) = bs.getD i 0 ++ bs.getD (i + 1) 0 := by
  rw [(fld_bigEndian bs i).2.1 h]
  exact (BitVec.ofNat_toNat _ _).trans (BitVec.setWidth_eq _)

theorem ofNat_fld_four {bs : List Byte} {i : Nat} (h : i + 4 ≤ bs.length) :
    BitVec.ofNat 32 (fld bs i 4) = bs.getD i 0 ++ bs.getD (i + 1) 0 ++ bs.getD (i + 2) 0 ++ bs.getD (i + 3) 0 := by
  rw [(fld_bigEndian bs i).2.2.2 h]
  exact (BitVec.ofNat_toNat _ _).trans (BitVec.setWidth_eq _)

/-- Settles O16: the lanes by `packLanes_getLsbD`, the frames received by `parseFrame_eq_some_iff`, the frames built by
`Frame.wire_*`, the records by `parseRecord_eq`. -/
theorem framesCarryWhatTheyAreBuiltFrom : Obligations.FramesCarryWhatTheyAreBuiltFrom := by
  refine ⟨fun node slot lanes image _ hlanes => ⟨?_, rfl, byte_toNat (by omega), fun k hk => ?_⟩, parseFrame_eq_some_iff,
    fun n k => FrameKind.ofCode_eq_some.trans (by cases k <;> rfl), ⟨rfl, fun bs b => ?_⟩, fun f addr bs hbs => ?_,
    fun f addr hdest hkind hlength => ?_, detectRecords_eq_some_iff, parseRecords_zero_iff, parseRecords_succ_iff,
    fun bs presence size tagAt hpresence htagAt hsize => ?_⟩
  · rw [fireFrame_payload, List.length_cons, List.length_cons, packLanes_length]
    omega
  · rw [fireFrame_lane, packLanes_getLsbD image hlanes hk]
  · rw [crc16_append_singleton, crcByte_eq]
  · subst hbs
    exact ⟨f.wire_length addr, f.wire_payload addr, address_byte f.dest, address_byte addr, f.wire_kind addr, rfl,
      f.wire_crc addr⟩
  · exact f.parseFrame_wire addr hdest hkind hlength
  · subst hpresence
    have htag : tagAt = if (bs.getD 0 0).getLsbD 0 then 17 else 16 := by
      rw [htagAt]
      split <;> rfl
    have hrecord : size = if (bs.getD 0 0).getLsbD 1 then tagAt + 4 else tagAt := by
      rw [hsize]
      split <;> rfl
    rw [parseRecord_eq htag hrecord]
    refine ⟨fun hshort => if_pos hshort, fun hlong => ⟨_, if_neg (Nat.not_lt.2 hlong), ?_⟩⟩
    have hfixed : 16 ≤ bs.length := by omega
    refine ⟨fld_one bs 1 (by omega), fld_one bs 2 (by omega), ofNat_fld_four (by omega), ofNat_fld_four (by omega),
      ofNat_fld_two (by omega), (fld_bigEndian bs 13).2.1 (by omega), fld_one bs 15 (by omega), ?_, ?_, rfl, rfl⟩
    · refine ite_congr rfl (fun hcentroid => ?_) fun _ => rfl
      rw [if_pos hcentroid] at htag
      rw [fld_one bs 16 (by omega)]
    · refine ite_congr rfl (fun htagged => ?_) fun _ => rfl
      rw [if_pos htagged] at hrecord
      rw [ofNat_fld_four (by omega)]

end Sys2Proof.Machine

/-! O6: ALERT follows the flags and the mask, the feeder command the hold-reason set, and the fault cause the mode (R125,
R134, R182). -/

namespace Sys2Proof.Machine

/-! ## The three relations -/

/-- RESETn is released, and ALERT is as the flags and the mask give it (R182). -/
def AlertFollows (s : State) : Prop := s.inReset = false ∧ s.mgmt.alert = alertOf s.mgmt.flags s.mgmt.mask

theorem alertOf_iff (flags mask : BitVec 15) : alertOf flags mask = true ↔ flags &&& mask ≠ 0 := decide_eq_true_iff

theorem alertInv_iff {s : State} (hrun : s.inReset = false) : AlertInv s ↔ AlertFollows s := by
  unfold AlertInv AlertFollows
  simp only [← alertOf_iff, hrun, true_and]
  exact Bool.eq_iff_iff.symm

/-- While RESETn is asserted the relation says that ALERT is released (R182). -/
theorem alertInv_inReset {s : State} (hreset : s.inReset = true) : AlertInv s ↔ s.mgmt.alert = false := by
  simp [AlertInv, hreset]

theorem AlertFollows.alertInv {s : State} (h : AlertFollows s) : AlertInv s := (alertInv_iff h.1).2 h

/-- Two states with the same ALERT and the same of what it follows (R182). -/
@[simp] def SameAlert (s t : State) : Prop :=
  t.inReset = s.inReset ∧ t.mgmt.flags = s.mgmt.flags ∧ t.mgmt.mask = s.mgmt.mask ∧ t.mgmt.alert = s.mgmt.alert

/-- Two states with the same hold-reason set and feeder command (R125). -/
@[simp] def SameFeeder (s t : State) : Prop :=
  t.station.holds = s.station.holds ∧ t.station.command = s.station.command

/-- Two states with the same mode and fault cause (R134). -/
@[simp] def SameCause (s t : State) : Prop := t.mc.mode = s.mc.mode ∧ t.mc.cause = s.mc.cause

theorem AlertFollows.same {s t : State} (h : AlertFollows s) (ht : SameAlert s t) : AlertFollows t := by
  obtain ⟨hreset, hflags, hmask, halert⟩ := ht
  unfold AlertFollows
  rwa [hreset, hflags, hmask, halert]

/-- Raising a flag computes ALERT anew, or changes nothing; a NOTICE does not touch it (R182, R183). -/
theorem AlertFollows.raiseOne {s : State} (h : AlertFollows s) (f : EventFlag) : AlertFollows (raiseOne f s) := by
  have hset : ∀ flags, AlertFollows (setFlags flags s) := fun _ => ⟨h.1, rfl⟩
  unfold Machine.raiseOne
  dsimp only
  split <;> [skip; split]
  · exact h
  · exact (hset (s.mgmt.flags ||| BitVec.twoPow 15 f.num)).same (by simp)
  · exact hset _

/-- Raising several flags raises each in turn (R183). -/
theorem AlertFollows.raise {s : State} (h : AlertFollows s) (fs : List EventFlag) : AlertFollows (raise fs s) := by
  unfold Machine.raise
  generalize EventFlag.all.filter (fun f => f ∈ fs) = l
  induction l generalizing s with
  | nil => exact h
  | cons f l ih => exact ih (h.raiseOne f)

/-- The feeder command is the one that the hold-reason set gives (R125). -/
theorem feederInv_iff (s : State) : FeederInv s ↔ s.station.command = s.station.holds.command := by
  refine ⟨HoldSet.eq_command, fun h => ?_⟩
  unfold FeederInv
  rw [h]
  unfold HoldSet.command HoldSet.any
  split <;> simp_all

theorem FeederInv.same {s t : State} (h : FeederInv s) (ht : SameFeeder s t) : FeederInv t := by
  obtain ⟨hholds, hcommand⟩ := ht
  rw [feederInv_iff] at h ⊢
  rwa [hholds, hcommand]

theorem CauseInv.same {s t : State} (h : CauseInv s) (ht : SameCause s t) : CauseInv t := by
  obtain ⟨hmode, hcause⟩ := ht
  unfold CauseInv
  rwa [hmode, hcause]

/-- A change of mode that neither leaves nor enters FAULT keeps the cause (R135). -/
theorem CauseInv.move {s t : State} (h : CauseInv s) (hs : s.mc.mode ≠ .fault) (ht : t.mc.mode ≠ .fault)
    (hcause : t.mc.cause = s.mc.cause) : CauseInv t := by
  unfold CauseInv
  rw [hcause]
  exact iff_of_true (h.2 hs) ht

/-- Entry into FAULT names its cause (R148). -/
theorem causeInv_fault {s : State} (hmode : s.mc.mode = .fault) (hcause : s.mc.cause ≠ .none) : CauseInv s :=
  iff_of_false hcause fun h => h hmode

/-- A mode other than FAULT with the cause cleared (R149, R152). -/
theorem causeInv_cleared {s : State} (hmode : s.mc.mode ≠ .fault) (hcause : s.mc.cause = .none) : CauseInv s :=
  iff_of_true hcause hmode

/-! ## What keeps the three relations -/

/-- A change of the state, RESETn released, that keeps the relations of ALERT, of the feeder command and of the fault
cause, each by itself. -/
structure KeepsAgreement (s t : State) : Prop where
  alert : AlertFollows s → AlertFollows t
  feeder : FeederInv s → FeederInv t
  cause : CauseInv s → CauseInv t

namespace KeepsAgreement

theorem trans {s t u : State} (h : KeepsAgreement s t) (h' : KeepsAgreement t u) : KeepsAgreement s u :=
  ⟨fun hi => h'.alert (h.alert hi), fun hi => h'.feeder (h.feeder hi), fun hi => h'.cause (h.cause hi)⟩

/-- A change that leaves alone what ALERT and the feeder command follow. -/
theorem of_mode {s t : State} (h : SameAlert s t ∧ SameFeeder s t) (hcause : CauseInv s → CauseInv t) :
    KeepsAgreement s t :=
  ⟨fun hi => hi.same h.1, fun hi => hi.same h.2, hcause⟩

/-- A change that leaves alone what ALERT and the fault cause follow. -/
theorem of_holds {s t : State} (h : SameAlert s t ∧ SameCause s t) (hfeeder : FeederInv s → FeederInv t) :
    KeepsAgreement s t :=
  ⟨fun hi => hi.same h.1, hfeeder, fun hi => hi.same h.2⟩

/-- A change that leaves alone what the feeder command and the fault cause follow. -/
theorem of_flags {s t : State} (h : SameFeeder s t ∧ SameCause s t) (halert : AlertFollows s → AlertFollows t) :
    KeepsAgreement s t :=
  ⟨halert, fun hi => hi.same h.1, fun hi => hi.same h.2⟩

/-- A change that leaves alone all that the three relations read. -/
theorem of_same {s t : State} (h : SameAlert s t ∧ SameFeeder s t ∧ SameCause s t) : KeepsAgreement s t :=
  .of_flags h.2 fun hi => hi.same h.1

@[simp] theorem refl (s : State) : KeepsAgreement s s := .of_same (by simp)

/-- Flags raised after the change (R182, R183). -/
theorem raise {s t : State} (h : KeepsAgreement s t) (fs : List EventFlag) : KeepsAgreement s (raise fs t) :=
  h.trans (.of_flags (by simp) fun hi => hi.raise fs)

/-- Serving a request keeps the relations when the request does: the answer and the queue do not touch them (R172). -/
theorem serve {want : Decoded → Option Act} {s : State}
    (hact : ∀ d act, want d = some act → KeepsAgreement s (act s).1) : KeepsAgreement s (serve want s) :=
  serve_keeps want s (.refl s) (fun _ _ h => h.trans (.of_same (by simp)))
    (fun _ _ h => h.trans (.of_same (by simp))) fun d act hw _ => hact d act hw

end KeepsAgreement

/-! ## Changes of mode -/

theorem keepsAgreement_changeMode {m : Mode} {s : State} (hs : s.mc.mode ≠ .fault) (hm : m ≠ .fault) :
    KeepsAgreement s (changeMode m s) :=
  .of_mode (by simp) fun h => h.move hs hm rfl

theorem keepsAgreement_flushInto {m : Mode} {s : State} (hs : s.mc.mode ≠ .fault) (hm : m ≠ .fault) :
    KeepsAgreement s (flushInto m s) :=
  .of_mode (by simp) fun h => h.move hs (by simpa using hm) (by simp)

theorem keepsAgreement_faultEntry {cause : FaultCause} (hcause : cause ≠ .none) (s : State) :
    KeepsAgreement s (faultEntry cause s) :=
  .of_mode (by simp) fun _ => causeInv_fault (by simp) (by simpa using hcause)

theorem keepsAgreement_takeEmergencyStop (s : State) : KeepsAgreement s (takeEmergencyStop s) := by
  have hoff : KeepsAgreement s (allOff s) := .of_same (by simp)
  unfold takeEmergencyStop
  dsimp only
  split
  · exact hoff.raise _
  · exact (hoff.trans (keepsAgreement_faultEntry (by decide) _)).raise _

theorem keepsAgreement_readStop (stop : StopLevel) (s : State) : KeepsAgreement s (readStop stop s) := by
  have hlevel : ∀ l, KeepsAgreement s { s with stopn := l } := fun _ => .of_same (by simp)
  cases stop with
  | asserted =>
    rw [readStop_asserted]
    exact (hlevel _).trans (keepsAgreement_takeEmergencyStop _)
  | deasserted =>
    rw [readStop_deasserted]
    exact hlevel _

theorem keepsAgreement_endTest (s : State) : KeepsAgreement s (endTest s) := by
  unfold endTest
  split
  · rename_i htest
    exact keepsAgreement_changeMode (by simp [htest]) (by decide)
  · exact .refl s

theorem keepsAgreement_doStart (s : State) : KeepsAgreement s (doStart s).1 := by
  by_cases hstandby : s.mc.mode = .standby
  · cases hc : startBlockers s with
    | some c =>
      rw [doStart_blocked hstandby hc]
      exact .refl s
    | none =>
      rw [doStart_runs hstandby hc]
      exact keepsAgreement_changeMode (by simp [hstandby]) (by decide)
  · rw [doStart_mode hstandby]
    exact .refl s

theorem keepsAgreement_doStop (s : State) : KeepsAgreement s (doStop s).1 := by
  cases hmode : s.mc.mode
  case run =>
    have hmarked : KeepsAgreement s { s with mc := { s.mc with drainStart := s.pos.tp } } := .of_same (by simp)
    have hmove : ∀ m, m ≠ .fault →
        KeepsAgreement s (changeMode m { s with mc := { s.mc with drainStart := s.pos.tp } }) := fun m hm =>
      hmarked.trans (keepsAgreement_changeMode (by simp [hmode]) hm)
    rw [doStop_run hmode]
    dsimp only
    split
    · exact (hmove _ (by decide)).raise _
    · exact hmove _ (by decide)
  case drain =>
    rw [doStop_drain hmode]
    exact keepsAgreement_flushInto (by simp [hmode]) (by decide)
  case standby | test | fault =>
    rw [doStop_mode (by simp [hmode]) (by simp [hmode])]
    exact .refl s

theorem keepsAgreement_doClearFault (stop : StopLevel) (s : State) :
    KeepsAgreement s (doClearFault stop { s with stopn := stop }).1 := by
  have hlevel : KeepsAgreement s { s with stopn := stop } := .of_same (by simp)
  unfold doClearFault
  split <;> [skip; split]
  · exact hlevel
  · exact hlevel
  · exact .of_mode (by simp) fun _ => causeInv_cleared (by simp [faultCleared]) (by simp [faultCleared])

theorem keepsAgreement_startRun (p : PortId) (role : ProvingRole) (n : Nat) (s : State) :
    KeepsAgreement s (startRun p role n s) := by
  unfold startRun
  dsimp only
  split
  · exact KeepsAgreement.raise (.of_same (by simp)) _
  · exact .of_same (by simp)

theorem keepsAgreement_doProve (port role n : Nat) (s : State) : KeepsAgreement s (doProve port role n s).1 := by
  by_cases hstandby : s.mc.mode = .standby
  · by_cases hrange : 1 < port ∨ 1 < role ∨ n = 0
    · rw [doProve_range hstandby hrange]
      exact .refl s
    · simp only [not_or, Nat.not_lt] at hrange
      obtain ⟨hport, hrole, hn⟩ := hrange
      rw [doProve_inRange hstandby (portOfCode_of_le hport) (roleOfCode_of_le hrole) hn]
      split
      · exact .refl s
      · exact (keepsAgreement_startRun _ _ n s).trans (keepsAgreement_changeMode (by simp [hstandby]) (by decide))
  · rw [doProve_mode hstandby]
    exact .refl s

/-! ## The hold-reason set -/

/-- A new hold-reason set comes with its command (R125). -/
theorem keepsAgreement_setHolds (h : HoldSet) (s : State) : KeepsAgreement s (setHolds h s) :=
  .of_holds (by simp) fun _ => (feederInv_iff _).2 (by simp)

theorem keepsAgreement_portUReport (r : LinkReport) (s : State) : KeepsAgreement s (portUReport r s) := by
  have hstation : ∀ linked, KeepsAgreement s (s.setStation { s.station with portULinked := linked }) := fun _ =>
    .of_same (by simp)
  cases r <;> exact (hstation _).trans (keepsAgreement_setHolds _ _)

theorem keepsAgreement_airReportTaken (b : BankIx) (on : Bool) (s : State) :
    KeepsAgreement s (airReportTaken b on s) := by
  have hstation : ∀ banks, KeepsAgreement s (s.setStation { s.station with airBanks := banks }) := fun _ =>
    .of_same (by simp)
  exact (hstation _).trans (keepsAgreement_setHolds _ _)

theorem keepsAgreement_takeStationMode (m : Mode) (s : State) : KeepsAgreement s (takeStationMode m s) := by
  have hmode : KeepsAgreement s (s.setStation (s.station.enterMode m)) :=
    .of_same (by simp [Station.enterMode, Station.retarget])
  have hholds := hmode.trans (keepsAgreement_setHolds (s.station.holdsIn m) _)
  rw [takeStationMode_eq]
  split
  · exact hholds.trans (.of_same (by simp))
  · exact hholds

/-- The ring, the band, the target and the splitter are nothing to the feeder (R114, R117, R118, R121, R123). -/
theorem keepsAgreement_advanceRing (s : State) : KeepsAgreement s (advanceRing s) := by
  unfold advanceRing
  dsimp only
  split <;> [skip; split] <;> exact .of_same (by simp [Station.advance, Station.retarget])

theorem keepsAgreement_applyStation (e : StationEntry) (s : State) : KeepsAgreement s (applyStation e s) := by
  have hwritten : KeepsAgreement s (s.setStation (s.station.written e)) :=
    .of_same (by simp [Station.written, Station.retarget])
  rw [applyStation_eq]
  generalize s.setStation (s.station.written e) = t at hwritten
  induction stationFrames e s generalizing t with
  | nil => exact hwritten
  | cons i l ih => exact ih _ (hwritten.trans (.of_same (by simp)))

theorem keepsAgreement_applyBand (k : Fin 8) (e : BandEntry) (s : State) : KeepsAgreement s (applyBand k e s) := by
  unfold applyBand
  dsimp only
  split <;> exact .of_same (by simp [Station.retarget])

/-! ## Frames, records and boundaries, and the flags they raise -/

theorem keepsAgreement_relayFrame (p : PortId) (bytes : List Byte) (s : State) :
    KeepsAgreement s (relayFrame p bytes s) := by
  cases p <;> unfold relayFrame <;> dsimp only <;> split
  case u.isTrue | d.isTrue => exact .of_same (by simp)
  all_goals exact KeepsAgreement.raise (.of_same (by simp)) _

theorem keepsAgreement_takeFrame (p : PortId) (bytes : List Byte) (s : State) :
    KeepsAgreement s (takeFrame p bytes s) := by
  unfold takeFrame
  split <;> [skip; (split <;> [split; skip])]
  · exact .of_same (by simp)
  · exact .of_same (by simp)
  · exact .of_same (by simp)
  · exact keepsAgreement_relayFrame p bytes s

theorem keepsAgreement_refuse (why : Refused) (s : State) : KeepsAgreement s (refuse why s) :=
  KeepsAgreement.raise (.of_same (by simp)) _

theorem keepsAgreement_settleRecord (r : Detection) (w : Winner) (plans : BankIx → Plan) (s : State) :
    KeepsAgreement s (settleRecord r w plans s) := by
  unfold settleRecord
  split <;> [split; skip]
  · exact keepsAgreement_refuse _ s
  · exact KeepsAgreement.raise (.of_same (by simp)) _
  · exact KeepsAgreement.raise (.of_same (by simp)) _

theorem keepsAgreement_takeRecord (r : Detection) (s : State) : KeepsAgreement s (takeRecord r s) := by
  have hcounted : ∀ c, KeepsAgreement s (s.setIntakeCounters c) := fun _ => .of_same (by simp)
  have hchecked : ∀ c d, KeepsAgreement s ((s.setIntakeCounters c).setIntakeCounters d) := fun _ _ =>
    .of_same (by simp)
  have hclassified : ∀ w c d, KeepsAgreement s (classify r w ((s.setIntakeCounters c).setIntakeCounters d)) :=
    fun _ _ _ => .of_same (by simp)
  unfold takeRecord
  dsimp only
  split <;> [skip; (split <;> [skip; (split <;> [skip; split])])]
  · exact (hcounted _).trans (keepsAgreement_refuse _ _)
  · exact (hcounted _).trans (keepsAgreement_refuse _ _)
  · exact (hchecked _ _).trans (keepsAgreement_refuse _ _)
  · exact (hchecked _ _).trans (keepsAgreement_refuse _ _)
  · exact (hclassified _ _ _).trans (keepsAgreement_settleRecord _ _ _ _)

theorem keepsAgreement_boundaryInUse (b : BankIx) (n : BitVec 8) (s : State) :
    KeepsAgreement s (boundaryInUse b n s) := by
  unfold boundaryInUse
  dsimp only
  split
  · exact .of_same (by simp)
  · exact KeepsAgreement.raise (.of_same (by simp)) _

theorem keepsAgreement_bankBoundary (b : BankIx) (s : State) : KeepsAgreement s (bankBoundary b s) := by
  have htaken : ∀ g, KeepsAgreement s (s.setBankHanded b g) := fun _ => .of_same (by simp)
  unfold bankBoundary
  split <;> [skip; (dsimp only; split)]
  · exact .refl s
  · exact .of_same (by simp)
  · exact (htaken _).trans (keepsAgreement_boundaryInUse b _ _)

theorem keepsAgreement_reverseStep (s : State) : KeepsAgreement s (reverseStep s) := by
  unfold reverseStep
  dsimp only
  split
  · exact KeepsAgreement.raise (.of_same (by simp)) _
  · exact .of_same (by simp)

/-! ## Requests -/

@[simp] theorem keepsAgreement_writeLineAct (i : Nat) (entry : List Byte) (s : State) :
    KeepsAgreement s (writeLineAct i entry s).1 := by
  unfold writeLineAct
  split <;> [skip; (split <;> [skip; split])]
  · exact .refl s
  · exact .refl s
  · exact .refl s
  · exact .of_same (by simp [applyLine_eq])

@[simp] theorem keepsAgreement_writeStationAct (i : Nat) (entry : List Byte) (s : State) :
    KeepsAgreement s (writeStationAct i entry s).1 := by
  unfold writeStationAct
  split <;> [skip; split]
  · exact .refl s
  · exact .refl s
  · exact keepsAgreement_applyStation _ s

@[simp] theorem keepsAgreement_writeBandAct (i : Nat) (entry : List Byte) (s : State) :
    KeepsAgreement s (writeBandAct i entry s).1 := by
  unfold writeBandAct
  split <;> [split; skip]
  · exact .refl s
  · exact keepsAgreement_applyBand _ _ s
  · exact .refl s

@[simp] theorem keepsAgreement_writeBankAct (i : Nat) (entry : List Byte) (s : State) :
    KeepsAgreement s (writeBankAct i entry s).1 := by
  obtain heq | ⟨b, e, -, heq⟩ := writeBankAct_cases i entry s <;> rw [heq] <;> exact .of_same (by simp)

@[simp] theorem keepsAgreement_writeRecipeAct (set : Fin 2) (i : Nat) (entry : List Byte) (s : State) :
    KeepsAgreement s (writeRecipeAct set i entry s).1 := by
  unfold writeRecipeAct
  repeat' split
  all_goals exact .of_same (by simp)

@[simp] theorem keepsAgreement_selectSetAct (n : Nat) (s : State) : KeepsAgreement s (selectSetAct n s).1 := by
  unfold selectSetAct
  split <;> exact .of_same (by simp)

@[simp] theorem keepsAgreement_clearCountersAct (g : GroupId) (bank : Nat) (s : State) :
    KeepsAgreement s (clearCountersAct g bank s).1 := by
  unfold clearCountersAct
  cases g <;> dsimp only [clearGroup]
  case bank =>
    split <;> [skip; exact .refl s]
    rename_i t ht
    split at ht <;> cases ht
    exact .of_same (by simp)
  all_goals exact .of_same (by simp)

/-- Cleared flags come with ALERT computed anew (R182, R184). -/
theorem keepsAgreement_clearEventsAct (named : BitVec 15) (s : State) : KeepsAgreement s (clearEventsAct named s).1 :=
  .of_flags (by simp [clearEventsAct]) fun h => ⟨h.1, rfl⟩

/-- A new mask comes with ALERT computed anew (R182). -/
theorem keepsAgreement_setMaskAct (mask : BitVec 15) (s : State) : KeepsAgreement s (setMaskAct mask s).1 :=
  .of_flags (by simp [setMaskAct]) fun h => ⟨h.1, rfl⟩

/-! ## Reset and power-on -/

/-- SOFT RESET clears the flags and ALERT, settles the hold-reason set, and takes STANDBY with no cause (R133, R152,
R185). -/
theorem keepsAgreement_resetBlocks (kept : Option Frame) (s : State) : KeepsAgreement s (resetBlocks kept s) where
  alert h := ⟨by simpa using h.1, by simp [resetBlocks, alertOf]⟩
  feeder _ := (feederInv_iff _).2 (by simp [resetBlocks_station, HoldSet.command, HoldSet.any])
  cause _ := causeInv_cleared (by simp [resetBlocks]) (by simp [resetBlocks])

section PowerOn

variable (straps : BitVec 4) (enc : EncPair) (stop : StopLevel) (pending : List Instr)

theorem alertFollows_powerOn : AlertFollows (.powerOn straps enc stop pending) :=
  ⟨rfl, by simp [State.powerOn, Management.powerOn, alertOf]⟩

theorem feederInv_powerOn : FeederInv (.powerOn straps enc stop pending) := (feederInv_iff _).2 rfl

theorem causeInv_powerOn : CauseInv (.powerOn straps enc stop pending) :=
  causeInv_cleared (by simp [State.powerOn]) rfl

end PowerOn

/-! ## Every command -/

/-- Every command but RESETN_ASSERTED keeps the three relations: a report to the Mode Controller as its change of mode
does, a command of the Station Controller by the set it settles, a request by its act, and every other command by the
frame lemmas, but for the flags it raises. -/
theorem exec_keepsAgreement {c : Instr} {s t : State} (hc : c ≠ .resetnAsserted) (he : exec c s = .next t) :
    KeepsAgreement s t := by
  have hrun : ∀ {f : State → State}, KeepsAgreement s (f s) → whenRunning f s = .next t → KeepsAgreement s t :=
    fun hf h => whenRunning_keeps (P := KeepsAgreement s) (.refl s) (fun _ => hf) h
  have htaken : ∀ g : Handed, KeepsAgreement s { s with handed := g } := fun _ => .of_same (by simp)
  cases c <;> dsimp only [exec] at he
  case powerOn straps enc stop =>
    cases he
    have hfresh : KeepsAgreement s (.powerOn straps enc stop s.pending) :=
      ⟨fun _ => alertFollows_powerOn .., fun _ => feederInv_powerOn .., fun _ => causeInv_powerOn ..⟩
    exact hfresh.trans (keepsAgreement_readStop stop _)
  case resetnAsserted => exact absurd rfl hc
  case softResetPerformed stop =>
    refine hrun ?_ he
    split
    · exact (keepsAgreement_resetBlocks _ s).trans (keepsAgreement_readStop stop _)
    · exact .refl s
    · exact .refl s
  case reverseCount => exact hrun (keepsAgreement_reverseStep s) he
  case binClose =>
    refine hrun ?_ he
    dsimp only
    split
    · exact KeepsAgreement.raise (.of_same (by simp)) _
    · exact .of_same (by simp)
  case slotBoundary part =>
    refine hrun ?_ he
    cases part with
    | clock => exact .of_same (by simp)
    | bank b => exact keepsAgreement_bankBoundary b s
  case statusFrame b =>
    refine hrun ?_ he
    split <;> [skip; (dsimp only; split <;> [skip; split])]
    · exact .refl s
    · exact htaken _
    · exact KeepsAgreement.raise (.of_same (by simp)) _
    · exact .of_same (by simp)
  case ringAdvance =>
    refine hrun ?_ he
    split
    · exact .refl s
    · exact (htaken _).trans (keepsAgreement_advanceRing _)
  case stationModeChange =>
    refine hrun ?_ he
    split
    · exact .refl s
    · exact (htaken _).trans (keepsAgreement_takeStationMode _ _)
  case holdReasonReport src =>
    refine hrun ?_ he
    cases src <;> dsimp only
    case itemTrack =>
      split
      · exact .refl s
      · exact (htaken _).trans (keepsAgreement_setHolds _ _)
    case portU =>
      split
      · exact .refl s
      · exact (htaken _).trans (keepsAgreement_portUReport _ _)
    case portD =>
      split
      · exact (htaken _).trans (keepsAgreement_setHolds _ _)
      · exact .refl s
    case bank =>
      split
      · exact .refl s
      · exact (htaken _).trans (keepsAgreement_airReportTaken _ _ _)
  case portDLinked =>
    refine hrun ?_ he
    split
    · exact .of_holds (by simp) fun _ => (feederInv_iff _).2 (by simp [Station.settle])
    · exact .refl s
  case emergencyStop =>
    refine hrun ?_ he
    exact keepsAgreement_readStop .asserted s
  case encoderFault =>
    refine hrun ?_ he
    split <;> [skip; (dsimp only; split)]
    · exact .refl s
    · exact (htaken _).raise _
    · exact ((htaken _).trans (keepsAgreement_faultEntry (by decide) _)).raise _
  case beltReversal =>
    refine hrun ?_ he
    split <;> [skip; (dsimp only; split)]
    · exact .refl s
    · exact ((htaken _).trans (keepsAgreement_faultEntry (by decide) _)).raise _
    · exact htaken _
  case trackEmptyReport =>
    refine hrun ?_ he
    split <;> [skip; (dsimp only; split)]
    · exact .refl s
    · rename_i hdrain
      obtain ⟨hmode, -⟩ := hdrain
      exact ((htaken _).trans (keepsAgreement_changeMode (by simp [hmode]) (by decide))).raise _
    · exact htaken _
  case drainTimeout =>
    refine hrun ?_ he
    split
    · rename_i hexpired
      obtain ⟨hmode, -⟩ := (drainExpired_iff s).1 hexpired
      exact (keepsAgreement_flushInto (by simp [hmode]) (by decide)).raise _
    · exact .refl s
  case blindSpanBegin =>
    refine hrun ?_ he
    split <;> [(dsimp only; split); skip]
    · exact KeepsAgreement.raise (.of_same (by simp)) _
    · exact htaken _
    · exact .refl s
  case provingExpiryReport =>
    refine hrun ?_ he
    split <;> [skip; split]
    · exact (htaken _).trans (keepsAgreement_endTest _)
    · exact .refl s
    · exact (htaken _).trans (keepsAgreement_endTest _)
  case frameReceived p bytes =>
    refine hrun ?_ he
    split
    · exact keepsAgreement_takeFrame p bytes s
    · exact .refl s
  case detectFrame =>
    refine hrun ?_ he
    split <;> [skip; (dsimp only; split)]
    · exact .refl s
    · exact .of_same (by simp)
    · exact KeepsAgreement.raise (.of_same (by simp)) _
  case detectRecord =>
    refine hrun ?_ he
    have hheld : ∀ held, KeepsAgreement s { s with intake := { s.intake with held := held } } := fun _ =>
      .of_same (by simp)
    split
    · exact .refl s
    · exact (hheld _).trans (keepsAgreement_takeRecord _ _)
  case partnerReadyChange p mark =>
    refine hrun ?_ he
    dsimp only
    split <;> [split; split; split; skip]
    case h_2.isFalse => exact KeepsAgreement.raise (.of_same (by simp)) _
    all_goals exact .of_same (by simp)
  case signalLoss p =>
    refine hrun ?_ he
    dsimp only
    split
    case h_1 => exact KeepsAgreement.raise (.of_same (by simp)) _
    all_goals exact .of_same (by simp)
  case monitorWindowClose p =>
    refine hrun ?_ he
    dsimp only
    split <;> [split; skip]
    · exact KeepsAgreement.raise (.of_same (by simp)) _
    · exact KeepsAgreement.raise (.of_same (by simp)) _
    · exact .of_same (by simp)
  case holdFeed | releaseFeed =>
    refine hrun (.serve fun d act hw => ?_) he
    split at hw <;> cases hw
    exact keepsAgreement_setHolds _ s
  case start =>
    refine hrun (.serve fun d act hw => ?_) he
    split at hw <;> cases hw
    exact keepsAgreement_doStart s
  case stop =>
    refine hrun (.serve fun d act hw => ?_) he
    split at hw <;> cases hw
    exact keepsAgreement_doStop s
  case prove =>
    refine hrun (.serve fun d act hw => ?_) he
    split at hw <;> cases hw
    exact keepsAgreement_doProve _ _ _ s
  case clearFault stop =>
    refine hrun (.serve fun d act hw => ?_) he
    split at hw <;> cases hw
    exact keepsAgreement_doClearFault stop s
  case clearEvents =>
    refine hrun (.serve fun d act hw => ?_) he
    split at hw <;> cases hw
    exact keepsAgreement_clearEventsAct _ s
  case setMask =>
    refine hrun (.serve fun d act hw => ?_) he
    split at hw <;> cases hw
    exact keepsAgreement_setMaskAct _ s
  case writeLine | writeStation | writeBand | writeBank | writeRecipe | selectSet | clearCounters =>
    refine hrun (.serve fun d act hw => ?_) he
    split at hw <;> cases hw
    simp
  case readLine | readStation | readBand | readBank | readRecipe | readTrack | readWindows | writeTrack | writeWindows
      | unknownRequest | readStatus | readCounters =>
    refine hrun (.serve fun d act hw => ?_) he
    split at hw <;> cases hw
    exact .refl s
  case burdenContribution =>
    refine hrun ?_ he
    split
    · exact .refl s
    · exact .of_same (by simp [Station.contribute])
  case retirementReport | signalDetected | receiverLocked | codeError =>
    refine hrun ?_ he
    dsimp only
    (repeat' split) <;> exact .of_same (by simp)
  all_goals
    refine hrun ?_ he
    (repeat' split) <;> exact .of_same (by simp)

/-- While RESETn is asserted ALERT stays released, until POWER_ON gives it anew (R10, R182; log 10). -/
theorem exec_alertInv {c : Instr} {s t : State} (h : AlertInv s) (he : exec c s = .next t) : AlertInv t := by
  by_cases hc : c = .resetnAsserted
  · subst hc
    cases he
    exact (alertInv_inReset rfl).2 rfl
  · cases hrun : s.inReset
    · exact ((exec_keepsAgreement hc he).alert ((alertInv_iff hrun).1 h)).alertInv
    · by_cases hpower : ∃ a e l, c = .powerOn a e l
      · obtain ⟨straps, enc, stop, rfl⟩ := hpower
        cases he
        exact ((keepsAgreement_readStop stop _).alert (alertFollows_powerOn ..)).alertInv
      · obtain ⟨-, hheld⟩ := resetAssertedHoldsThePart
        rw [hheld c s hrun (fun a e l hc => hpower ⟨a, e, l, hc⟩) hc] at he
        cases he
        exact h

theorem exec_feederInv {c : Instr} {s t : State} (h : FeederInv s) (he : exec c s = .next t) : FeederInv t := by
  by_cases hc : c = .resetnAsserted
  · subst hc
    cases he
    exact h
  · exact (exec_keepsAgreement hc he).feeder h

theorem exec_causeInv {c : Instr} {s t : State} (h : CauseInv s) (he : exec c s = .next t) : CauseInv t := by
  by_cases hc : c = .resetnAsserted
  · subst hc
    cases he
    exact h
  · exact (exec_keepsAgreement hc he).cause h

/-- Settles O6: relation by relation, by `exec_keepsAgreement`. -/
theorem stepKeepsAlertFeederAndCause : Obligations.StepKeepsAlertFeederAndCause :=
  ⟨step_keeps AlertInv (fun _ _ h => h) fun _ _ _ h he => exec_alertInv h he,
    step_keeps FeederInv (fun _ _ h => h) fun _ _ _ h he => exec_feederInv h he,
    step_keeps CauseInv (fun _ _ h => h) fun _ _ _ h he => exec_causeInv h he⟩

end Sys2Proof.Machine

/-! O52: a request joins the queue or is answered BUSY, a failure to decode is answered, and what each payload decodes
to (R172, R173, R192, R193; log 11). -/

namespace Sys2Proof.Machine

/-! ## A request arrives -/

theorem exec_requestArrival {s : State} {r : Request} {rest : List Request} (hrun : s.inReset = false)
    (h : s.handed.requests = r :: rest) :
    exec .requestArrival s = .next
      (if s.mgmt.queue.length < 4 then
        { s with
          handed := { s.handed with requests := rest }
          mgmt := { s.mgmt with queue := s.mgmt.queue ++ [r] } }
      else pushOwn (answerFrame r ⟨.busy, []⟩) { s with handed := { s.handed with requests := rest } }) := by
  dsimp only [exec, execRequestArrival]
  rw [whenRunning_running _ hrun, h]
  rfl

/-! ## The codes of tables and groups -/

theorem TableId.ofCode_code (t : TableId) : TableId.ofCode t.code = some t := by
  cases t with
  | recipe set => revert set; decide
  | _ => rfl

theorem TableId.ofCode_none {n : Nat} (h : 7 < n) : TableId.ofCode n = none := by
  obtain ⟨k, rfl⟩ := Nat.exists_eq_add_of_le' h
  rfl

theorem GroupId.ofCode_code (g : GroupId) : GroupId.ofCode g.code = some g := by
  cases g with
  | tally set => revert set; decide
  | _ => rfl

theorem GroupId.ofCode_none {n : Nat} (h : 4 < n) : GroupId.ofCode n = none := by
  obtain ⟨k, rfl⟩ := Nat.exists_eq_add_of_le' h
  rfl

/-! ## Numbers of one and two bytes -/

theorem be_byte (b : Byte) : be [b] = b.toNat := fld_one [b] 0 Nat.one_pos

theorem be_two_bytes (hi lo : Byte) : be [hi, lo] = (hi ++ lo).toNat := (fld_bigEndian [hi, lo] 0).2.1 (le_refl 2)

theorem fld_head (b : Byte) (bs : List Byte) : fld (b :: bs) 0 1 = b.toNat := be_byte b

theorem ofNat_be_two_bytes (hi lo : Byte) : BitVec.ofNat 15 (be [hi, lo]) = (hi ++ lo).setWidth 15 := by
  rw [be_two_bytes, BitVec.ofNat_toNat]

/-! ## The arguments of a request -/

theorem decodeBare_of_ne_nil {args : List Byte} (h : args ≠ []) (d : Decoded) : decodeBare d args = .bad .range :=
  if_neg (by simpa using h)

theorem decodeReadTable_unknown {table : Byte} (h : 7 < table.toNat) (args : List Byte) :
    decodeReadTable (table :: args) = .bad .unknown := by
  unfold decodeReadTable
  rw [fld_head, TableId.ofCode_none h]
  rfl

theorem decodeReadTable_known {table : Byte} {t : TableId} (h : table.toNat = t.code) (args : List Byte) :
    decodeReadTable (table :: args) =
      if args.length = 4 then .readTable t (fld args 0 1) (fld args 1 2) (fld args 3 1) else .bad .range := by
  unfold decodeReadTable
  rw [fld_head, h, TableId.ofCode_code]
  simp [fld]

theorem decodeWriteTable_unknown {table : Byte} (h : 7 < table.toNat) (args : List Byte) :
    decodeWriteTable (table :: args) = .bad .unknown := by
  unfold decodeWriteTable
  rw [fld_head, TableId.ofCode_none h]
  rfl

/-- A write naming a read-only table decodes whatever its length (R193). -/
theorem decodeWriteTable_readOnly {table : Byte} {t : TableId} (h : table.toNat = t.code) (hsize : t.entryBytes = none)
    (args : List Byte) : decodeWriteTable (table :: args) = .writeTable t (fld args 0 1) (args.drop 1) := by
  unfold decodeWriteTable
  rw [fld_head, h, TableId.ofCode_code]
  dsimp only
  rw [hsize]
  rfl

theorem decodeWriteTable_sized {table : Byte} {t : TableId} {n : Nat} (h : table.toNat = t.code)
    (hsize : t.entryBytes = some n) (args : List Byte) :
    decodeWriteTable (table :: args) =
      if args.length = 1 + n then .writeTable t (fld args 0 1) (args.drop 1) else .bad .range := by
  unfold decodeWriteTable
  rw [fld_head, h, TableId.ofCode_code]
  dsimp only
  rw [hsize]
  have hlength : (table :: args).length = 2 + n ↔ args.length = 1 + n := by
    rw [List.length_cons]
    omega
  simp only [hlength]
  rfl

theorem decodeGroup_unknown (mk : GroupId → Nat → Decoded) {group : Byte} (h : 4 < group.toNat) (args : List Byte) :
    decodeGroup mk (group :: args) = .bad .unknown := by
  unfold decodeGroup
  rw [fld_head, GroupId.ofCode_none h]
  rfl

theorem decodeGroup_known (mk : GroupId → Nat → Decoded) {group : Byte} {g : GroupId} (h : group.toNat = g.code)
    (args : List Byte) :
    decodeGroup mk (group :: args) = if args.length = 1 then mk g (fld args 0 1) else .bad .range := by
  unfold decodeGroup
  rw [fld_head, h, GroupId.ofCode_code]
  simp [fld]

/-! ## The request codes -/

/-- Each request code with the decoding of its arguments (R192). -/
theorem decodeRequest_code (tag : Byte) (args : List Byte) :
    decodeRequest (tag :: 1 :: args) = decodeReadTable args
      ∧ decodeRequest (tag :: 2 :: args) = decodeWriteTable args
      ∧ decodeRequest (tag :: 3 :: args) = decodeBare .start args
      ∧ decodeRequest (tag :: 4 :: args) = decodeBare .stop args
      ∧ decodeRequest (tag :: 5 :: args) =
        (if args.length = 4 then .prove (fld args 0 1) (fld args 1 1) (fld args 2 2) else .bad .range)
      ∧ decodeRequest (tag :: 6 :: args) = decodeBare .clearFault args
      ∧ decodeRequest (tag :: 7 :: args) = decodeBare .softReset args
      ∧ decodeRequest (tag :: 8 :: args) = (if args.length = 1 then .selectSet (fld args 0 1) else .bad .range)
      ∧ decodeRequest (tag :: 9 :: args) = decodeBare .holdFeed args
      ∧ decodeRequest (tag :: 10 :: args) = decodeBare .releaseFeed args
      ∧ decodeRequest (tag :: 11 :: args) = decodeBare .readStatus args
      ∧ decodeRequest (tag :: 12 :: args) = decodeGroup .readCounters args
      ∧ decodeRequest (tag :: 13 :: args) = decodeGroup .clearCounters args
      ∧ decodeRequest (tag :: 14 :: args) = decodeFlags .clearEvents args
      ∧ decodeRequest (tag :: 15 :: args) = decodeFlags .setMask args := by
  and_intros <;> rfl

theorem decodeRequest_short {payload : List Byte} (h : payload.length < 2) : decodeRequest payload = .bad .range :=
  if_pos h

theorem decodeRequest_unknown {code : Byte} (h : code = 0 ∨ 15 < code.toNat) (tag : Byte) (args : List Byte) :
    decodeRequest (tag :: code :: args) = .bad .unknown := by
  obtain rfl | h := h
  · rfl
  · obtain ⟨k, hk⟩ := Nat.exists_eq_add_of_le' h
    have hcode : fld (tag :: code :: args) 1 1 = k + 16 := (fld_head code args).trans hk
    unfold decodeRequest
    rw [hcode]
    rfl

/-! ## READ TABLE and WRITE TABLE, READ COUNTERS and CLEAR COUNTERS, by the table or group -/

section Table

variable {table : Byte} {t : TableId} (h : table.toNat = t.code) (tag : Byte)
include h

theorem decodeRequest_readTable (bank hi lo count : Byte) :
    decodeRequest [tag, 1, table, bank, hi, lo, count] =
      .readTable t bank.toNat (hi ++ lo).toNat count.toNat := by
  rw [← be_byte bank, ← be_two_bytes, ← be_byte count]
  simp only [decodeRequest_code]
  exact decodeReadTable_known h [bank, hi, lo, count]

theorem decodeRequest_readTable_length {args : List Byte} (hlength : args.length ≠ 4) :
    decodeRequest (tag :: 1 :: table :: args) = .bad .range := by
  simp only [decodeRequest_code, decodeReadTable_known h, if_neg hlength]

theorem decodeRequest_writeTable (index : Byte) {entry : List Byte}
    (hsize : t.entryBytes = none ∨ t.entryBytes = some entry.length) :
    decodeRequest (tag :: 2 :: table :: index :: entry) = .writeTable t index.toNat entry := by
  rw [← be_byte index]
  simp only [decodeRequest_code]
  obtain hsize | hsize := hsize
  · exact decodeWriteTable_readOnly h hsize (index :: entry)
  · exact (decodeWriteTable_sized h hsize (index :: entry)).trans (if_pos (Nat.add_comm _ _))

theorem decodeRequest_writeTable_length (index : Byte) {entry : List Byte} {n : Nat} (hsize : t.entryBytes = some n)
    (hlength : entry.length ≠ n) : decodeRequest (tag :: 2 :: table :: index :: entry) = .bad .range := by
  have hlong : (index :: entry).length ≠ 1 + n := by
    rw [List.length_cons]
    omega
  simp only [decodeRequest_code, decodeWriteTable_sized h hsize, if_neg hlong]

/-- A write that ends after the table byte names index 0 and an empty entry, which a read-only table takes (R193). -/
theorem decodeRequest_writeTable_bare :
    decodeRequest [tag, 2, table] = if t.entryBytes = none then .writeTable t 0 [] else .bad .range := by
  simp only [decodeRequest_code]
  cases hsize : t.entryBytes with
  | none => exact decodeWriteTable_readOnly h hsize []
  | some n =>
    have hshort : ([] : List Byte).length ≠ 1 + n := by
      rw [List.length_nil]
      omega
    rw [decodeWriteTable_sized h hsize, if_neg hshort, if_neg (Option.some_ne_none n)]

end Table

theorem decodeRequest_group {group : Byte} {g : GroupId} (h : group.toNat = g.code) (tag bank : Byte) :
    decodeRequest [tag, 12, group, bank] = .readCounters g bank.toNat
      ∧ decodeRequest [tag, 13, group, bank] = .clearCounters g bank.toNat := by
  rw [← be_byte bank]
  simp only [decodeRequest_code]
  exact ⟨decodeGroup_known .readCounters h [bank], decodeGroup_known .clearCounters h [bank]⟩

theorem decodeRequest_group_length {group : Byte} {g : GroupId} (h : group.toNat = g.code) (tag : Byte)
    {args : List Byte} (hlength : args.length ≠ 1) :
    decodeRequest (tag :: 12 :: group :: args) = .bad .range
      ∧ decodeRequest (tag :: 13 :: group :: args) = .bad .range := by
  simp only [decodeRequest_code, decodeGroup_known _ h, if_neg hlength, and_self]

/-- Settles O52: the arrival by whether there is room; each failure and each request by its code, through
`decodeRequest_code` and the decoding of the arguments. -/
theorem requestsQueueAndFailToDecode : Obligations.RequestsQueueAndFailToDecode := by
  refine ⟨fun s r rest hrun h => ⟨fun hroom => ?_, fun hfull => ?_⟩,
    fun s r rest c hs hd => serve_answers (act := reads fun _ => .refuse c) hs (by rw [hd]) rfl,
    fun payload => decodeRequest_short, fun tag code args h => decodeRequest_unknown h tag args,
    fun tag code hcode => ?_, fun tag code table args hcode h => ?_, fun tag code group args hcode h => ?_,
    fun tag code args hcode h => ?_, fun tag => ?_, fun tag table t size htable hsize => ?_,
    fun tag port role hi lo => ?_, fun tag set => ?_, fun tag group g hgroup => ?_, fun tag hi lo => ?_,
    fun tag args => ?_⟩
  · rw [exec_requestArrival hrun h, if_pos hroom]
  · rw [exec_requestArrival hrun h, if_neg (Nat.not_lt.2 hfull)]
    rfl
  · obtain rfl | rfl | rfl | rfl := hcode <;> rfl
  · obtain rfl | rfl := hcode
    · simp only [decodeRequest_code, decodeReadTable_unknown h]
    · simp only [decodeRequest_code, decodeWriteTable_unknown h]
  · obtain rfl | rfl := hcode <;> simp only [decodeRequest_code, decodeGroup_unknown _ h]
  · obtain rfl | rfl | rfl | rfl | rfl | rfl | rfl := hcode <;> simp only [decodeRequest_code, decodeBare_of_ne_nil h]
  · exact ⟨rfl, rfl, rfl, rfl, rfl, rfl, rfl⟩
  · have hcode : table.toNat = t.code := by rw [htable]; cases t <;> rfl
    have hentry : size = t.entryBytes := by rw [hsize]; cases t <;> rfl
    subst hentry
    exact ⟨decodeRequest_readTable hcode tag, fun args => decodeRequest_readTable_length hcode tag,
      fun index entry => decodeRequest_writeTable hcode tag index,
      fun index entry n => decodeRequest_writeTable_length hcode tag index, decodeRequest_writeTable_bare hcode tag⟩
  · rw [← be_byte port, ← be_byte role, ← be_two_bytes]
    rfl
  · rw [← be_byte set]
    rfl
  · have hcode : group.toNat = g.code := by rw [hgroup]; cases g <;> rfl
    exact ⟨decodeRequest_group hcode tag, fun args => decodeRequest_group_length hcode tag⟩
  · rw [← ofNat_be_two_bytes]
    exact ⟨rfl, rfl⟩
  · simp only [decodeRequest_code, decodeFlags]
    exact ⟨fun h => if_neg h, fun h => if_neg h, fun h => ⟨if_neg h, if_neg h⟩⟩

end Sys2Proof.Machine

/-! O60: SELECT_SET (R50), HOLD_FEED and RELEASE_FEED (R130), CLEAR_EVENTS (R184) and SET_MASK (R182). -/

namespace Sys2Proof.Machine

theorem selectSetAct_set (k : Fin 2) (s : State) :
    selectSetAct k.val s =
      ({ s with cls := { s.cls with active := k } },
        ⟨.ok, [BitVec.ofNat 8 s.cls.active.val, BitVec.ofNat 8 k.val]⟩) :=
  dif_pos k.isLt

theorem selectSetAct_range {n : Nat} (h : 1 < n) (s : State) : selectSetAct n s = (s, ⟨.range, []⟩) :=
  dif_neg (Nat.not_lt.2 h)

/-- A named flag is cleared, and no other (R184). -/
theorem clearedFlags_eq {old named flags : BitVec 15}
    (h : ∀ k, k < 15 → flags.getLsbD k = (old.getLsbD k && !named.getLsbD k)) : old &&& ~~~named = flags := by
  refine BitVec.eq_of_getLsbD_eq fun k hk => ?_
  rw [h k hk, BitVec.getLsbD_and, BitVec.getLsbD_not]
  simp [hk]

/-- ALERT is asserted while some flag is both set and admitted (R182). -/
theorem alertOf_eq {flags mask : BitVec 15} {alert : Bool}
    (h : alert = true ↔ ∃ k, k < 15 ∧ flags.getLsbD k = true ∧ mask.getLsbD k = true) : alertOf flags mask = alert := by
  rw [Bool.eq_iff_iff, alertOf_iff, h, ne_eq, BitVec.eq_of_getLsbD_eq_iff]
  simp

theorem clearEventsAct_eq {s : State} {named flags : BitVec 15} {alert : Bool}
    (hflags : ∀ k, k < 15 → flags.getLsbD k = (s.mgmt.flags.getLsbD k && !named.getLsbD k))
    (halert : alert = true ↔ ∃ k, k < 15 ∧ flags.getLsbD k = true ∧ s.mgmt.mask.getLsbD k = true) :
    clearEventsAct named s =
      ({ s with mgmt := { s.mgmt with flags := flags, alert := alert } },
        ⟨.ok, [BitVec.ofNat 8 (flags.toNat / 256), BitVec.ofNat 8 flags.toNat]⟩) := by
  unfold clearEventsAct setFlags
  rw [clearedFlags_eq hflags, alertOf_eq halert]
  rfl

theorem setMaskAct_eq {s : State} {mask : BitVec 15} {alert : Bool}
    (halert : alert = true ↔ ∃ k, k < 15 ∧ s.mgmt.flags.getLsbD k = true ∧ mask.getLsbD k = true) :
    setMaskAct mask s = ({ s with mgmt := { s.mgmt with mask := mask, alert := alert } }, ⟨.ok, []⟩) := by
  unfold setMaskAct setEventMask
  rw [alertOf_eq halert]
  rfl

/-- Settles O60: each request is served with its act, whose state and answer are the statement's. -/
theorem selectFeedAndEventRequests : Obligations.SelectFeedAndEventRequests := by
  intro s r rest hs
  refine ⟨fun n hd => ⟨fun k hk => ?_, fun hn => ?_⟩, fun hd => ?_, fun hd => ?_,
    fun named flags alert hd hflags halert => ?_, fun mask alert hd halert => ?_⟩
  · subst hk
    exact serve_answers hs (by rw [hd]) (selectSetAct_set k s)
  · exact serve_answers hs (by rw [hd]) (selectSetAct_range hn s)
  · exact serve_answers (act := operatorAct true) hs (by rw [hd]) rfl
  · exact serve_answers (act := operatorAct false) hs (by rw [hd]) rfl
  · exact serve_answers hs (by rw [hd]) (clearEventsAct_eq hflags halert)
  · exact serve_answers hs (by rw [hd]) (setMaskAct_eq halert)

end Sys2Proof.Machine

/-! O5: the state after reset meets every relation that the steps keep (R9, R17, R29, R105, R111, R113, R122, R125,
R134, R163, R164, R182). -/

namespace Sys2Proof.Machine

section PowerOn

variable (straps : BitVec 4) (enc : EncPair) (stop : StopLevel) (pending : List Instr)

/-- The speed is 0 over an empty history, and C with it (R7, R9). -/
theorem speedInv_powerOn : SpeedInv (.powerOn straps enc stop pending) := by
  unfold SpeedInv State.powerOn PositionUnit.powerOn
  dsimp only
  decide

theorem rotorInv_powerOn : RotorInv (.powerOn straps enc stop pending) :=
  (rotorInv_iff _).2 ⟨rfl, Nat.zero_le _, Nat.zero_le _, rfl⟩

/-- No bank owes the empty track an item (R29, R32). -/
theorem trackInv_powerOn : TrackInv (.powerOn straps enc stop pending) := by
  refine trackInv_of_empty rfl fun b => ?_
  have hreports : (State.powerOn straps enc stop pending).bankHanded b = .empty := by
    simp [State.powerOn, State.bankHanded, Handed.empty]
  rw [State.owed, powerOn_bank, hreports]
  rfl

/-- What everything done to a Bank Unit keeps holds of every Bank Unit after power-on. -/
theorem BankClosed.allBanks_powerOn {P : BankUnit → Prop} (hP : BankClosed P) :
    AllBanks P (.powerOn straps enc stop pending) := by
  intro b
  rw [powerOn_bank]
  exact hP.powerOn

end PowerOn

/-- Settles O5: relation by relation, of the power-on state with any straps, encoder pair and level of STOPn. -/
theorem resetMeetsTheInvariants : Obligations.ResetMeetsTheInvariants :=
  ⟨(alertFollows_powerOn ..).alertInv, feederInv_powerOn .., causeInv_powerOn .., queueInv_powerOn ..,
    burdenInv_of_empty ⟨rfl, rfl, rfl⟩, speedInv_powerOn .., rotorInv_powerOn ..,
    (balanceInv_iff _).2 (BankUnit.Balanced.bankClosed.allBanks_powerOn _ _ _ _), trackInv_powerOn ..,
    (imageInv_iff _).2 (BankUnit.DarkUnlessFiring.bankClosed.allBanks_powerOn _ _ _ _),
    (laneInv_iff _).2 (BankUnit.InRange.bankClosed.allBanks_powerOn _ _ _ _), freeLaneInv_powerOn ..⟩

end Sys2Proof.Machine
